-- ==== Sys2Proof/Word.lean ====
section
/-! DEFINITION. The words of the block: bytes, state codes, and the model-level HOST word (30_encoding R45, R59). -/

namespace Sys2Proof

/-- One byte: `SR`, `DEV_ADDR`, an element of `TXBUF` (10_state R11, R14, R15). -/
abbrev Byte := BitVec 8

/-- The 4-bit code of the protocol state (10_state R10, 30_encoding R45). -/
abbrev StateCode := BitVec 4

/-- The 5-bit dispatch key `{STTIFG, STATE[3:0]}` (30_encoding R46). -/
abbrev DispatchKey := BitVec 5

/-- A word of the ENV format: the 2-bit tag `ee`, then one operand bit (30_encoding R59). -/
abbrev EnvWord := BitVec 3

/-- A word of the HOST format (30_encoding R59): `width` bits, bit 0 the least significant; the 4-bit tag
stands in the top four bits, the operand below it. -/
structure HostWord where
  width : Nat
  bits  : Nat
  deriving DecidableEq, Repr

end Sys2Proof
end

