-- ==== Sys2Proof/Config.lean ====
section
/-! DEFINITION. What an implementation fixes, and the values the spec leaves free (00_scope R4, 10_state R25). -/

namespace Sys2Proof.Config

/-- `OWN_ADDR_DEFAULT`, the default 7-bit slave address (00_scope R4). -/
def ownAddrDefault : BitVec 7 := 0x24#7

/-- `TXBUF_RESET`: the content of byte `i` of the transmit buffer before anything is written to it. The spec
treats it as a draw, "an arbitrary value fixed at reset, about which nothing is assumed" (10_state R25), so it
has no body. DESIGN CHOICE (log 6), safe. -/
opaque txbufReset : Nat → Byte

end Sys2Proof.Config
end

