-- ==== Sys2Proof/Syntax.lean ====
section
/-! DEFINITION. The operations of the block, one constructor per row of spec/opcode_table.json. -/

namespace Sys2Proof

/-- The 22 operations: the handler's actions (format DISPATCH, 30_encoding R47), the producer's calls (format
HOST) and the environment's events (format ENV, R59). A bit that a row does not examine is an operand, so that
an encoding loses no bit. -/
inductive Instr where
  /-- Start override, then the ADDRESS action (40_dispatch R61). `cccc` is the state code that was in progress. -/
  | hStart (cccc : StateCode)
  /-- The IDLE action (R63). -/
  | hIdle
  /-- The ADDRESS action without a pending start flag (41_address R70). -/
  | hAddress
  /-- Decode and answer the received address byte (R72). -/
  | hProcessAddress
  /-- Close a transaction whose address did not match (R74). -/
  | hRxCheck
  /-- The reserved state RX_DATA (40_dispatch R64). -/
  | hRxData
  /-- Send the first data byte (42_transmit R81). -/
  | hTxData
  /-- Release the line for the master's acknowledge bit (R82). -/
  | hAckNack
  /-- Act on the master's acknowledge bit (R84). -/
  | hTxCheck
  /-- A state code that names no state: the odd code `{xxx, 1}` (40_dispatch R65). -/
  | hIllegal (xxx : BitVec 3)
  /-- `initialize(a)` (43_codec_host R98). The argument is a number, so that R98's check of it can be stated. -/
  | hostInit (a : Nat)
  /-- `set_transmit_value16(v)` (R96). -/
  | setTransmitValue16 (v : BitVec 16)
  /-- `set_transmit_value32(v)` (R97). -/
  | setTransmitValue32 (v : BitVec 32)
  /-- `pack16(v)` (R90). -/
  | pack16 (v : BitVec 16)
  /-- `pack32(v)` (R91). -/
  | pack32 (v : BitVec 32)
  /-- `unpack16(b0, b1)` (R92). -/
  | unpack16 (b0 b1 : Byte)
  /-- `unpack32(b0, b1, b2, b3)` (R93). -/
  | unpack32 (b0 b1 b2 b3 : Byte)
  /-- `irq_mask()` (R95). -/
  | irqMask
  /-- `irq_restore()` (R95). -/
  | irqRestore
  /-- `ENV_START` (44_environment R106). -/
  | envStart (x : Bool)
  /-- `ENV_CLOCK(m)`: `m` is the master's drive of the data line, true for released (R107). -/
  | envClock (m : Bool)
  /-- `ENV_STOP` (R108). -/
  | envStop (x : Bool)
  deriving DecidableEq, Repr

end Sys2Proof
end

