-- ==== Sys2Proof/WellFormed.lean ====
section
/-! DEFINITION. Which instructions have an encoding: every operand fits the field the spec gives it. -/

namespace Sys2Proof

/-- The argument of `initialize` is a 7-bit address (30_encoding R59: `a[6:0]`; R56(c)); every other operand has
the width of its field by its type. -/
def Instr.wf : Instr → Bool
  | .hostInit a => decide (a ≤ 127)
  | .hStart _ => true
  | .hIdle => true
  | .hAddress => true
  | .hProcessAddress => true
  | .hRxCheck => true
  | .hRxData => true
  | .hTxData => true
  | .hAckNack => true
  | .hTxCheck => true
  | .hIllegal _ => true
  | .setTransmitValue16 _ => true
  | .setTransmitValue32 _ => true
  | .pack16 _ => true
  | .pack32 _ => true
  | .unpack16 _ _ => true
  | .unpack32 _ _ _ _ => true
  | .irqMask => true
  | .irqRestore => true
  | .envStart _ => true
  | .envClock _ => true
  | .envStop _ => true

end Sys2Proof
end

