-- ==== Sys2Proof/Decode.lean ====
section
/-! DEFINITION. State codes, the decoder and the encoder (30_encoding R45, R46, R47, R59). -/

namespace Sys2Proof

/-! ## State codes (30_encoding R45) -/

@[simp] abbrev StateCode.idle : StateCode := 0#4
@[simp] abbrev StateCode.address : StateCode := 2#4
@[simp] abbrev StateCode.processAddress : StateCode := 4#4
@[simp] abbrev StateCode.rxCheck : StateCode := 6#4
@[simp] abbrev StateCode.rxData : StateCode := 8#4
@[simp] abbrev StateCode.txData : StateCode := 10#4
@[simp] abbrev StateCode.ackNack : StateCode := 12#4
@[simp] abbrev StateCode.txCheck : StateCode := 14#4

/-! ## Decoding -/

/-- A word of one of the three formats. -/
inductive CodeWord where
  | dispatch (key : DispatchKey)
  | host (w : HostWord)
  | env (e : EnvWord)
  deriving DecidableEq, Repr

/-- Why a word is no instruction. -/
inductive DecodeError where
  /-- HOST tag 9 to 15: reserved (30_encoding R59). -/
  | hostReservedTag
  /-- A HOST word whose width is not the one its tag has, or whose number does not fit its width: no word of
  R59. -/
  | hostMalformed
  /-- ENV tag `11`: reserved (R59). -/
  | envReservedTag
  deriving DecidableEq, Repr

/-- The opcode map of the DISPATCH format (30_encoding R47); total on the 32 keys. -/
def decodeDispatch (key : DispatchKey) : Instr :=
  if key.getLsbD 4 then .hStart (key.extractLsb' 0 4)
  else if key.getLsbD 0 then .hIllegal (key.extractLsb' 1 3)
  else if key = 0x00#5 then .hIdle
  else if key = 0x02#5 then .hAddress
  else if key = 0x04#5 then .hProcessAddress
  else if key = 0x06#5 then .hRxCheck
  else if key = 0x08#5 then .hRxData
  else if key = 0x0A#5 then .hTxData
  else if key = 0x0C#5 then .hAckNack
  else .hTxCheck

/-- The width R59 gives the word of a HOST tag, `none` for a reserved tag. -/
def hostWidth (tag : Nat) : Option Nat :=
  match tag with
  | 0 => some 11
  | 1 => some 20
  | 2 => some 36
  | 3 => some 20
  | 4 => some 36
  | 5 => some 20
  | 6 => some 36
  | 7 => some 4
  | 8 => some 4
  | _ => none

/-- The tag of a HOST word: its top four bits. -/
def HostWord.tag (w : HostWord) : Nat := w.bits / 2 ^ (w.width - 4)

/-- The operand of a HOST word: the bits below the tag. -/
def HostWord.operand (w : HostWord) : Nat := w.bits % 2 ^ (w.width - 4)

/-- The operation of a HOST tag with its operand (30_encoding R59); byte 0 of an `unpack` operand stands in its
top eight bits. -/
def hostInstr (tag operand : Nat) : Option Instr :=
  match tag with
  | 0 => some (.hostInit (operand % 128))
  | 1 => some (.setTransmitValue16 (BitVec.ofNat 16 operand))
  | 2 => some (.setTransmitValue32 (BitVec.ofNat 32 operand))
  | 3 => some (.pack16 (BitVec.ofNat 16 operand))
  | 4 => some (.pack32 (BitVec.ofNat 32 operand))
  | 5 => some (.unpack16 (BitVec.ofNat 8 (operand / 2 ^ 8)) (BitVec.ofNat 8 operand))
  | 6 => some (.unpack32 (BitVec.ofNat 8 (operand / 2 ^ 24)) (BitVec.ofNat 8 (operand / 2 ^ 16))
      (BitVec.ofNat 8 (operand / 2 ^ 8)) (BitVec.ofNat 8 operand))
  | 7 => some .irqMask
  | 8 => some .irqRestore
  | _ => none

/-- The HOST format (30_encoding R59). A word narrower than a tag, wider or narrower than its tag's row, or
with a number that does not fit its width is malformed; a well-sized word of a reserved tag is reserved. -/
def decodeHost (w : HostWord) : Except DecodeError Instr :=
  if w.width < 4 ∨ 2 ^ w.width ≤ w.bits then .error .hostMalformed
  else
    match hostWidth w.tag, hostInstr w.tag w.operand with
    | some n, some i => if w.width = n then .ok i else .error .hostMalformed
    | _, _ => .error .hostReservedTag

/-- The ENV format (30_encoding R59). -/
def decodeEnv (e : EnvWord) : Except DecodeError Instr :=
  match e.toNat / 2 with
  | 0 => .ok (.envStart (e.getLsbD 0))
  | 1 => .ok (.envClock (e.getLsbD 0))
  | 2 => .ok (.envStop (e.getLsbD 0))
  | _ => .error .envReservedTag

/-- The decoder: total on the words of the three formats, rejecting by name. -/
def decode : CodeWord → Except DecodeError Instr
  | .dispatch key => .ok (decodeDispatch key)
  | .host w => decodeHost w
  | .env e => decodeEnv e

/-! ## Encoding -/

/-- A HOST word from its tag, the width of its operand and the operand. -/
def hostWord (tag operandWidth operand : Nat) : HostWord :=
  ⟨operandWidth + 4, tag * 2 ^ operandWidth + operand⟩

/-- An ENV word from its tag and its operand bit. -/
def envWord (tag : BitVec 2) (m : Bool) : EnvWord := tag ++ BitVec.ofBool m

/-- The word of a well-formed instruction (30_encoding R47, R59). -/
def encode : Instr → CodeWord
  | .hStart cccc => .dispatch (1#1 ++ cccc)
  | .hIdle => .dispatch 0b00000#5
  | .hAddress => .dispatch 0b00010#5
  | .hProcessAddress => .dispatch 0b00100#5
  | .hRxCheck => .dispatch 0b00110#5
  | .hRxData => .dispatch 0b01000#5
  | .hTxData => .dispatch 0b01010#5
  | .hAckNack => .dispatch 0b01100#5
  | .hTxCheck => .dispatch 0b01110#5
  | .hIllegal xxx => .dispatch (0#1 ++ xxx ++ 1#1)
  | .hostInit a => .host (hostWord 0 7 a)
  | .setTransmitValue16 v => .host (hostWord 1 16 v.toNat)
  | .setTransmitValue32 v => .host (hostWord 2 32 v.toNat)
  | .pack16 v => .host (hostWord 3 16 v.toNat)
  | .pack32 v => .host (hostWord 4 32 v.toNat)
  | .unpack16 b0 b1 => .host (hostWord 5 16 (b0 ++ b1).toNat)
  | .unpack32 b0 b1 b2 b3 => .host (hostWord 6 32 (b0 ++ b1 ++ b2 ++ b3).toNat)
  | .irqMask => .host (hostWord 7 0 0)
  | .irqRestore => .host (hostWord 8 0 0)
  | .envStart x => .env (envWord 0b00#2 x)
  | .envClock m => .env (envWord 0b01#2 m)
  | .envStop x => .env (envWord 0b10#2 x)

/-! ## Words of the opcode table -/

/-- The word that a row of spec/opcode_table.json of `nbits` bits stands for. The widths of the table name the
format: 5 is DISPATCH, 3 is ENV, 4, 11, 20 and 36 are HOST. Rounded up to whole bytes the HOST rows with an
operand keep widths of their own (16, 24, 40), while the rows of 3, 4 and 5 bits all become 8: an 8-bit table
word is read as a dispatch key, the one format that hardware decodes (DESIGN CHOICE, log 15). -/
def CodeWord.ofTable (nbits w : Nat) : Option CodeWord :=
  match nbits with
  | 3 => if w < 2 ^ 3 then some (.env (BitVec.ofNat 3 w)) else none
  | 5 => if w < 2 ^ 5 then some (.dispatch (BitVec.ofNat 5 w)) else none
  | 8 => if w < 2 ^ 5 then some (.dispatch (BitVec.ofNat 5 w)) else none
  | 4 => some (.host ⟨4, w⟩)
  | 11 => some (.host ⟨11, w⟩)
  | 16 => some (.host ⟨11, w⟩)
  | 20 => some (.host ⟨20, w⟩)
  | 24 => some (.host ⟨20, w⟩)
  | 36 => some (.host ⟨36, w⟩)
  | 40 => some (.host ⟨36, w⟩)
  | _ => none

/-- The instruction the decoder reads from a table word, `none` where it refuses. -/
def decodeTableWord (nbits w : Nat) : Option Instr :=
  match CodeWord.ofTable nbits w with
  | none => none
  | some c =>
    match decode c with
    | .ok i => some i
    | .error _ => none

end Sys2Proof
end

