-- ==== Sys2Proof/Machine/State.lean ====
section
/-! DEFINITION. The state of the machine, its faults and refusals, and the state after reset. -/

namespace Sys2Proof.Machine

/-- The build-time length `N` of the transmit buffer: 2 or 4 bytes (00_scope R4, 10_state R14). -/
inductive BufLen where
  | two
  | four
  deriving DecidableEq, Repr

/-- `N` as a number. -/
def BufLen.n : BufLen → Nat
  | .two => 2
  | .four => 4

/-- The three agents (00_scope R6). -/
inductive Agent where
  | handler
  | producer
  | environment
  deriving DecidableEq, Repr

/-- The bit counts the engine arms: `arm(n)` has a meaning for 1 and 8 only (10_state R18, 30_encoding R56(b)). -/
inductive ArmCount where
  | one
  | eight
  deriving DecidableEq, Repr

/-- One entry of the ghost trace `WIRE` (44_environment R110): the markers `S` and `P`, or a clock with the value
of the line and of `OE` during it. -/
inductive WireEntry where
  | start
  | stop
  | clock (line oe : Bool)
  deriving DecidableEq, Repr

/-- The value an `unpack` returns to its caller (43_codec_host R92, R93). -/
inductive HostValue where
  | u16 (v : BitVec 16)
  | u32 (v : BitVec 32)
  deriving DecidableEq, Repr

/-- The configuration bits `CFG.*` (10_state R20). -/
structure Cfg where
  peSda : Bool
  peScl : Bool
  master : Bool
  lsbFirst : Bool
  i2cMode : Bool
  ckpl : Bool
  ifgAutoclear : Bool
  deriving DecidableEq, Repr

/-- The written bytes of `TXBUF` by index, strictly rising. A byte nothing has written is not listed and holds no
value here; what it reads as is `Config.txbufReset` (log 6). -/
abbrev Memory := List Host.Cell

/-- Everything the spec gives the machine, and the model's own queues and return value (INVENTORY.md). -/
structure State where
  /-- `STATE` (10_state R10). -/
  state : StateCode
  /-- `DEV_ADDR` (R11). -/
  devAddr : Byte
  /-- `DATA_IDX` (R12). -/
  dataIdx : BitVec 3
  /-- `OWN_ADDR` (R13). -/
  ownAddr : BitVec 7
  /-- `N`, which no step changes (R14). -/
  bufLen : BufLen
  /-- `TXBUF` (R14). -/
  txbuf : Memory
  /-- `SR` (R15). -/
  sr : Byte
  /-- `STTIFG` (R16). -/
  sttifg : Bool
  /-- `IFG` (R17). -/
  ifg : Bool
  /-- `CNT` (R18). -/
  cnt : BitVec 4
  /-- `OE` (R19). -/
  oe : Bool
  /-- `CFG.*` (R20). -/
  cfg : Cfg
  /-- `STTIE` (R20). -/
  sttie : Bool
  /-- `IE` (R20). -/
  ie : Bool
  /-- `GIE` (R20, 43_codec_host R95). -/
  gie : Bool
  /-- `GIE_SAVED` (43_codec_host R95). -/
  gieSaved : Bool
  /-- Whether the producer is inside a critical section (R95). -/
  inCritical : Bool
  /-- The ghost `INIT_DONE` (10_state R21). -/
  initDone : Bool
  /-- The ghost `WIRE`, oldest entry first (44_environment R110). -/
  wire : List WireEntry
  /-- The byte writes still to come of a bare `pack` in progress, next one first (43_codec_host R100). -/
  pendingWrites : List (Nat × Byte)
  /-- The model's own: what the last `unpack` returned (log 11). -/
  unpacked : Option HostValue
  /-- The model's own: the producer's calls to come, next one first (log 1). -/
  hostCalls : List HostWord
  /-- The model's own: the bus events to come, next one first (log 1). -/
  busEvents : List EnvWord
  /-- The model's own: which agent moves next, in order (log 1). -/
  turns : List Agent
  deriving DecidableEq, Repr

/-- Why the machine stops with a fault. -/
inductive Fault where
  /-- Raised by a read of `TXBUF[i]` with `i >= N`, for which the spec names this fault (20_memory R34), and by a
  write there, for which the spec names nothing: DESIGN CHOICE (log 20). A state that meets the invariant raises it
  in neither case (10_state R27). Safe. -/
  | bufferIndexOutOfRange
  deriving DecidableEq, Repr

/-- Why the model gives an operation no meaning. -/
inductive Refusal where
  /-- Raised by an arm of `exec` that has no meaning yet; no arm is one. Safe. -/
  | notModelled (mnemonic : String)
  /-- Raised by H_RX_DATA: `refuse RxDataHasNoAction` (40_dispatch R64). Safe. -/
  | rxDataHasNoAction
  /-- Raised by H_ILLEGAL: `refuse IllegalStateCode` (R65). Safe. -/
  | illegalStateCode
  /-- Raised by every DISPATCH operation invoked with `irq = 0` (60_exceptions R126). Safe. -/
  | handlerWithoutPendingFlag
  /-- Raised by `irq_mask`, and by the publish that contains it, inside a critical section (43_codec_host R95).
  Safe. -/
  | nestedCriticalSection
  /-- Raised by a codec or publish operation whose width is not that of `N` (R99). Safe. -/
  | widthMismatch
  /-- Raised by a second `initialize` (R98). Safe. -/
  | reinitialize
  /-- Raised by `initialize` with an argument above 127 (R98). Safe. -/
  | addressOutOfRange
  /-- Raised by fetching a HOST word with tag 9 to 15 (30_encoding R59). Safe. -/
  | reservedHostTag
  /-- Raised by fetching a HOST word whose width is not its tag's (log 14). Safe. -/
  | malformedHostWord
  /-- Raised by fetching an ENV word with tag `11` (30_encoding R59). Safe. -/
  | reservedEnvTag
  deriving DecidableEq, Repr

/-- What one step answers. -/
abbrev Result := Host.Outcome State Fault Refusal

/-- The configuration bits before `initialize`: unspecified in the spec (10_state R24). DESIGN CHOICE (log 8),
unsafe. -/
def Cfg.reset : Cfg := ⟨false, false, false, false, false, false, false⟩

/-- Power-on, before `initialize` (10_state R22, R24). `STATE`, `INIT_DONE`, `WIRE`, `GIE`, `STTIE` and `IE` are
the spec's values; the rest are DESIGN CHOICES named in the logs 3 to 9, and the model's own fields are empty. -/
def State.reset : State where
  state := StateCode.idle
  devAddr := 0x48#8
  dataIdx := 0#3
  ownAddr := Config.ownAddrDefault
  bufLen := .two
  txbuf := []
  sr := 0x00#8
  sttifg := false
  ifg := false
  cnt := 0#4
  oe := false
  cfg := Cfg.reset
  sttie := false
  ie := false
  gie := false
  gieSaved := false
  inCritical := false
  initDone := false
  wire := []
  pendingWrites := []
  unpacked := none
  hostCalls := []
  busEvents := []
  turns := []

end Sys2Proof.Machine
end

