-- ==== Sys2Proof/Machine/Flags.lean ====
section
/-! DEFINITION. The two interrupt flags, the interrupt request and what it enables (60_exceptions R125 to R129). -/

namespace Sys2Proof.Machine

/-- The interrupt request: `irq = (STTIFG AND STTIE) OR (IFG AND IE)` (60_exceptions R125). -/
def State.irq (s : State) : Bool := (s.sttifg && s.sttie) || (s.ifg && s.ie)

/-- A handler step is enabled exactly when `GIE = 1` and `irq = 1` (R126). -/
def State.handlerEnabled (s : State) : Bool := s.gie && s.irq

/-- The clock hold: no `ENV_CLOCK` while a flag is pending (44_environment R109). -/
def State.clockHeld (s : State) : Bool := s.sttifg || s.ifg

/-- A bus start sets `STTIFG` (44_environment R106). -/
def setStartFlag (s : State) : State := { s with sttifg := true }

/-- The ADDRESS action clears `STTIFG` (41_address R70). -/
def clearStartFlag (s : State) : State := { s with sttifg := false }

/-- The armed count reaching zero sets `IFG` (44_environment R107): the event sets it, not the level
(10_state R17). -/
def setCompletionFlag (s : State) : State := { s with ifg := true }

/-- Every handler exit clears `IFG` (40_dispatch R62). -/
def clearCompletionFlag (s : State) : State := { s with ifg := false }

end Sys2Proof.Machine
end

