-- ==== Sys2Proof/Machine/Operands.lean ====
section
/-! DEFINITION. Operand assembly: dispatch key, device address, received bits, codec bytes, the line
(30_encoding R46, R52 to R54, 44_environment R107). -/

namespace Sys2Proof.Machine

/-- `key = {STTIFG, STATE[3:0]}` (30_encoding R46). -/
def State.dispatchKey (s : State) : DispatchKey := BitVec.ofBool s.sttifg ++ s.state

/-- `{a, 0b0}`: a 7-bit address in its canonical form (30_encoding R53). -/
def canonOf (a : BitVec 7) : Byte := a ++ 0#1

/-- `CANON = {OWN_ADDR, 0b0}` (30_encoding R53). -/
def State.canon (s : State) : Byte := canonOf s.ownAddr

/-- The read/write flag of a received address byte: its bit 0 (30_encoding R48, R54). -/
def rwFlag (b : Byte) : Bool := b.getLsbD 0

/-- The received acknowledge bit: `SR[0]`, set for NACK (20_memory R33, 30_encoding R49). -/
def nackBit (sr : Byte) : Bool := sr.getLsbD 0

/-- The fold: `DEV_ADDR + 1 mod 2^8` when the read/write flag is set (41_address R72). -/
def fold (devAddr b : Byte) : Byte := if rwFlag b then devAddr + 1 else devAddr

/-- What the engine puts on the line: `SR[7]` when `OE = 1`, released otherwise (44_environment R107). -/
def State.drive (s : State) : Bool := if s.oe then s.sr.getLsbD 7 else true

/-- The line during a clock in which the master drives `m`: low if either side pulls it low (R107). -/
def State.line (s : State) (m : Bool) : Bool := s.drive && m

/-- One shift of `SR`: the sampled bit enters at bit 0 (20_memory R33, 44_environment R107). -/
def shiftIn (sr : Byte) (line : Bool) : Byte := (sr <<< 1) ||| (if line then 1#8 else 0#8)

/-- The count operand of `arm` (30_encoding R54). -/
def ArmCount.bits : ArmCount → BitVec 4
  | .one => 1#4
  | .eight => 8#4

/-- Codec byte `i` of a value of `w` bits: `(V >> (w - 8 - 8*i)) mod 2^8` (30_encoding R54). -/
def codecByte {w : Nat} (v : BitVec w) (i : Nat) : Byte := (v >>> (w - 8 - 8 * i)).setWidth 8

/-- The bytes of `pack16(v)` in the order they are written (43_codec_host R90). -/
def packBytes16 (v : BitVec 16) : List Byte := [codecByte v 0, codecByte v 1]

/-- The bytes of `pack32(v)` in the order they are written (R91). -/
def packBytes32 (v : BitVec 32) : List Byte := [codecByte v 0, codecByte v 1, codecByte v 2, codecByte v 3]

/-- `unpack16(b0, b1) = {b0, b1}` (R92). -/
def unpackValue16 (b0 b1 : Byte) : BitVec 16 := b0 ++ b1

/-- `unpack32(b0, b1, b2, b3) = {b0, b1, b2, b3}` (R93). -/
def unpackValue32 (b0 b1 b2 b3 : Byte) : BitVec 32 := b0 ++ b1 ++ b2 ++ b3

/-- The byte writes of a `pack`: index 0 first (R90, R91). -/
def packWrites (bytes : List Byte) : List (Nat × Byte) := (List.range bytes.length).zip bytes

end Sys2Proof.Machine
end

