-- ==== Sys2Proof/Machine/Ops.lean ====
section
/-! DEFINITION. The shared operations: buffer access, arming, re-priming, the byte load, the frame of a handler
invocation (taking the interrupt and leaving it), the critical section and the producer's byte writes. -/

namespace Sys2Proof.Machine

/-- Sequencing: a fault or a refusal ends the operation. -/
def Result.andThen (r : Result) (f : State → Result) : Result :=
  match r with
  | .next s => f s
  | .fault e => .fault e
  | .refused e => .refused e

/-! ## The transmit buffer (20_memory R30, R34) -/

/-- The written value of byte `a`, `none` where nothing has written it. -/
def Memory.read (m : Memory) (a : Nat) : Option Byte :=
  match m with
  | [] => none
  | c :: rest => if c.1 = a then some c.2 else Memory.read rest a

/-- Write byte `a`, keeping the cells strictly rising. -/
def Memory.write (m : Memory) (a : Nat) (v : Byte) : Memory :=
  match m with
  | [] => [(a, v)]
  | c :: rest =>
    if a < c.1 then (a, v) :: c :: rest
    else if a = c.1 then (a, v) :: rest
    else c :: Memory.write rest a v

/-- Every cell of `m` lies above `lo`, and the cells rise strictly. -/
def Memory.risingFrom (lo : Option Nat) (m : Memory) : Bool :=
  match m with
  | [] => true
  | c :: rest =>
    (match lo with
      | none => true
      | some a => decide (a < c.1)) && Memory.risingFrom (some c.1) rest

/-- The canonical form: addresses strictly rising. An unlisted byte holds no value, so no cell can repeat what it
reads as. -/
def Memory.wf (m : Memory) : Bool := Memory.risingFrom none m

/-- What byte `i` of the buffer reads as: the written value, or the draw of 10_state R25 (log 6). -/
def State.bufByte (s : State) (i : Nat) : Byte := (Memory.read s.txbuf i).getD (Config.txbufReset i)

/-- `MemWrite(i, 1, v)` (00_scope section 6): defined for `i < N`. The spec gives a write at `i >= N` no behaviour
and names the fault for a read only (20_memory R34); that such a write faults too is the model's: DESIGN CHOICE
(log 20), safe. -/
def memWrite (i : Nat) (v : Byte) (s : State) : Result :=
  if i < s.bufLen.n then .next { s with txbuf := Memory.write s.txbuf i v }
  else .fault .bufferIndexOutOfRange

/-! ## The engine's macros -/

/-- `arm(n)`: the absolute write `CNT <- n` (10_state R18). -/
def arm (n : ArmCount) (s : State) : State := { s with cnt := n.bits }

/-- `prepStart()`: release the line, discard the fold (41_address R75). -/
def prepStart (s : State) : State := { s with oe := false, devAddr := s.canon }

/-- The end of a transaction in TX_CHECK: cursor to 0, `prepStart`, `S_IDLE` (42_transmit R84). -/
def endTransaction (s : State) : State := { prepStart { s with dataIdx := 0#3 } with state := StateCode.idle }

/-- `TX_NEXT` with the byte already read (42_transmit R80). -/
def loadByte (b : Byte) (s : State) : State :=
  { arm .eight { s with oe := true, sr := b } with dataIdx := s.dataIdx + 1, state := StateCode.ackNack }

/-- `TX_NEXT()`: load `TXBUF[DATA_IDX]`; the read at `DATA_IDX >= N` is the fault of 20_memory R34. -/
def txNext (s : State) : Result :=
  if s.dataIdx.toNat < s.bufLen.n then .next (loadByte (s.bufByte s.dataIdx.toNat) s)
  else .fault .bufferIndexOutOfRange

/-- The start override: `if STTIFG = 1 then STATE <- S_ADDRESS` (40_dispatch R61). -/
def startOverride (s : State) : State := if s.sttifg then { s with state := StateCode.address } else s

/-- The ADDRESS action (41_address R70): start-of-transaction reset, clock in eight bits, clear the start flag. -/
def addressAction (s : State) : State :=
  { clearStartFlag (arm .eight { s with dataIdx := 0#3, devAddr := s.canon }) with
    state := StateCode.processAddress }

/-! ## Taking the interrupt and returning from it (40_dispatch R60, R62; 60_exceptions R126, R130, R132) -/

/-- The handler's exit: `IFG <- 0`, whatever path was taken (40_dispatch R62). -/
def leaveHandler (s : State) : State := clearCompletionFlag s

/-- One invocation of the handler around its one action. Nothing is saved and nothing restored (60_exceptions
R130). Without a pending enabled flag there is no invocation to give a meaning to (R126); with `GIE = 0` the
invocation is not taken and the flags stay pending (R126, R128; log 2). -/
def takeInterrupt (action : State → Result) (s : State) : Result :=
  if s.irq then
    if s.gie then (action s).andThen (fun t => .next (leaveHandler t))
    else .next s
  else .refused .handlerWithoutPendingFlag

/-- A dispatch key that selects no action: refused under `why`, or for want of a pending flag as any other
invocation (40_dispatch R64, R65; 60_exceptions R126). -/
def noAction (why : Refusal) (s : State) : Result :=
  if s.irq then .refused why else .refused .handlerWithoutPendingFlag

/-! ## The producer's operations (43_codec_host) -/

/-- `GIE_SAVED <- GIE ; GIE <- 0`, entering the critical section (R95). -/
def enterCritical (s : State) : State := { s with gieSaved := s.gie, gie := false, inCritical := true }

/-- `GIE <- GIE_SAVED`, leaving the critical section (R95). -/
def leaveCritical (s : State) : State := { s with gie := s.gieSaved, inCritical := false }

/-- `irq_mask()`; nesting is refused (R95). -/
def maskInterrupts (s : State) : Result :=
  if s.inCritical then .refused .nestedCriticalSection else .next (enterCritical s)

/-- The byte writes `ws` one after the other (R90, R91). -/
def writeAll (ws : List (Nat × Byte)) (s : State) : Result :=
  match ws with
  | [] => .next s
  | w :: rest => (memWrite w.1 w.2 s).andThen (writeAll rest)

/-- The next byte write of the pack in progress, if there is one (R100). -/
def writeNext (s : State) : Result :=
  match s.pendingWrites with
  | [] => .next s
  | w :: rest => memWrite w.1 w.2 { s with pendingWrites := rest }

/-- The producer starts the byte writes `ws`. Inside a critical section the write of the whole buffer is atomic
(20_memory R36), here one step (log 10). Outside one, whatever `GIE` is, the byte writes are separate steps, of
which this is the first (R36, R100). -/
def startWrites (ws : List (Nat × Byte)) (s : State) : Result :=
  if s.inCritical then writeAll (s.pendingWrites ++ ws) { s with pendingWrites := [] }
  else writeNext { s with pendingWrites := s.pendingWrites ++ ws }

/-- A codec write of `bytes`, refused unless there is one byte per element of the buffer (R99). -/
def packBytes (bytes : List Byte) (s : State) : Result :=
  if bytes.length = s.bufLen.n then startWrites (packWrites bytes) s else .refused .widthMismatch

/-- The atomic publish: `irq_mask(); pack; irq_restore()` in one step (R96, R97). -/
def publish (bytes : List Byte) (s : State) : Result :=
  if bytes.length = s.bufLen.n then
    (maskInterrupts s).andThen (fun t => (packBytes bytes t).andThen (fun u => .next (leaveCritical u)))
  else .refused .widthMismatch

/-- The configuration bits `initialize` sets (10_state R20). -/
def configuredCfg : Cfg where
  peSda := true
  peScl := true
  master := false
  lsbFirst := false
  i2cMode := true
  ckpl := true
  ifgAutoclear := false

/-! ## The environment's events (44_environment) -/

/-- The environment appends one element to the ghost trace (R110). -/
def traceWire (e : WireEntry) (s : State) : State := { s with wire := s.wire ++ [e] }

/-- The shift of one armed bit: sample the line, count down, raise `IFG` at zero (R107). -/
def shiftBit (line : Bool) (s : State) : State :=
  let t := { s with sr := shiftIn s.sr line, cnt := s.cnt - 1 }
  if t.cnt = 0#4 then setCompletionFlag t else t

/-- An event that cannot happen yet stays at the head of the environment's queue (R109; log 2). -/
def holdEvent (e : EnvWord) (s : State) : State := { s with busEvents := e :: s.busEvents }

end Sys2Proof.Machine
end

