-- ==== Sys2Proof/Machine/Address.lean ====
section
/-! DEFINITION. The address decoder: ADDRESS, PROCESS_ADDRESS, RX_CHECK (41_address). -/

namespace Sys2Proof.Machine

/-- `H_ADDRESS`: the ADDRESS action without a pending start flag; the key is unreachable and the action runs as
written (41_address R70). -/
def execHAddress (s : State) : Result := takeInterrupt (fun t => .next (addressAction t)) s

/-- The PROCESS_ADDRESS action: fold, drive the line, compare, answer with one bit (41_address R72). -/
def processAddress (s : State) : State :=
  let dev := fold s.devAddr s.sr
  let t := { s with devAddr := dev, oe := true }
  arm .one
    (if s.sr = dev then { t with sr := 0x00#8, state := StateCode.txData }
     else { t with sr := 0xFF#8, state := StateCode.rxCheck })

/-- `H_PROCESS_ADDRESS` (41_address R72). -/
def execHProcessAddress (s : State) : Result := takeInterrupt (fun t => .next (processAddress t)) s

/-- `H_RX_CHECK`: `prepStart`, back to `S_IDLE` (41_address R74). -/
def execHRxCheck (s : State) : Result :=
  takeInterrupt (fun t => .next { prepStart t with state := StateCode.idle }) s

end Sys2Proof.Machine
end

