-- ==== Sys2Proof/Machine/Environment.lean ====
section
/-! DEFINITION. The environment's events: start, clock, stop (44_environment). -/

namespace Sys2Proof.Machine

/-- `ENV_START`: always enabled; sets `STTIFG` and nothing else (44_environment R106). -/
def execEnvStart (_x : Bool) (s : State) : Result := .next (traceWire .start (setStartFlag s))

/-- `ENV_CLOCK(m)`: one clock pulse (44_environment R107). While a flag is pending the clock is held and the pulse
waits (R109; log 2). With nothing armed the peripheral ignores it. -/
def execEnvClock (m : Bool) (s : State) : Result :=
  if s.clockHeld then .next (holdEvent (envWord 0b01#2 m) s)
  else if s.cnt = 0#4 then .next (traceWire (.clock (s.line m) s.oe) s)
  else .next (traceWire (.clock (s.line m) s.oe) (shiftBit (s.line m) s))

/-- `ENV_STOP`: no effect on the engine or the peripheral (44_environment R108). -/
def execEnvStop (_x : Bool) (s : State) : Result := .next (traceWire .stop s)

end Sys2Proof.Machine
end

