-- ==== Sys2Proof/Machine/Handler.lean ====
section
/-! DEFINITION. The dispatcher's own actions: the start override, IDLE, the reserved and the illegal states
(40_dispatch). -/

namespace Sys2Proof.Machine

/-- `H_START`: the override, then the ADDRESS action in the same invocation (40_dispatch R61). The state that was
in progress is not examined. -/
def execHStart (_cccc : StateCode) (s : State) : Result :=
  takeInterrupt (fun t => .next (addressAction (startOverride t))) s

/-- `H_IDLE`: no operation (40_dispatch R63). -/
def execHIdle (s : State) : Result := takeInterrupt (fun t => .next t) s

/-- `H_RX_DATA`: the reserved state has no action (40_dispatch R64), so there is nothing an invocation could run. -/
def execHRxData (s : State) : Result := noAction .rxDataHasNoAction s

/-- `H_ILLEGAL`: a code that names no state has no action (40_dispatch R65). -/
def execHIllegal (_xxx : BitVec 3) (s : State) : Result := noAction .illegalStateCode s

end Sys2Proof.Machine
end

