-- ==== Sys2Proof/Machine/Producer.lean ====
section
/-! DEFINITION. The producer's operations: set-up, codec, critical section, publish (43_codec_host). -/

namespace Sys2Proof.Machine

/-- `initialize(a)`: one-time set-up; interrupts are enabled with everything else configured (43_codec_host R98,
70_reset R141). It writes neither `STATE` nor `TXBUF` nor `SR`. -/
def execHostInit (a : Nat) (s : State) : Result :=
  if s.initDone then .refused .reinitialize
  else if 127 < a then .refused .addressOutOfRange
  else
    .next { s with
      ownAddr := BitVec.ofNat 7 a
      devAddr := canonOf (BitVec.ofNat 7 a)
      cfg := configuredCfg
      sttie := true
      ie := true
      dataIdx := 0#3
      oe := false
      cnt := 0#4
      sttifg := false
      ifg := false
      gie := true
      initDone := true }

/-- `set_transmit_value16(v)` (43_codec_host R96). -/
def execSetTransmitValue16 (v : BitVec 16) (s : State) : Result := publish (packBytes16 v) s

/-- `set_transmit_value32(v)` (R97). -/
def execSetTransmitValue32 (v : BitVec 32) (s : State) : Result := publish (packBytes32 v) s

/-- `pack16(v)`, the bare codec write (R90, R100). -/
def execPack16 (v : BitVec 16) (s : State) : Result := packBytes (packBytes16 v) s

/-- `pack32(v)`, the bare codec write (R91, R100). -/
def execPack32 (v : BitVec 32) (s : State) : Result := packBytes (packBytes32 v) s

/-- `unpack16(b0, b1)`: a pure function of two bytes; no state of the block is written, and the value goes to the
caller (R92; log 11). -/
def execUnpack16 (b0 b1 : Byte) (s : State) : Result :=
  .next { s with unpacked := some (.u16 (unpackValue16 b0 b1)) }

/-- `unpack32(b0, b1, b2, b3)`: likewise (R93; log 11). -/
def execUnpack32 (b0 b1 b2 b3 : Byte) (s : State) : Result :=
  .next { s with unpacked := some (.u32 (unpackValue32 b0 b1 b2 b3)) }

/-- `irq_mask()` (R95). -/
def execIrqMask (s : State) : Result := maskInterrupts s

/-- `irq_restore()` (R95). -/
def execIrqRestore (s : State) : Result := .next (leaveCritical s)

end Sys2Proof.Machine
end

