-- ==== Sys2Proof/Machine/Transmit.lean ====
section
/-! DEFINITION. The byte-transmit sequencer: TX_DATA, ACK_NACK, TX_CHECK (42_transmit). -/

namespace Sys2Proof.Machine

/-- `H_TX_DATA`: `TX_NEXT` for the first byte (42_transmit R81). -/
def execHTxData (s : State) : Result := takeInterrupt txNext s

/-- `H_ACK_NACK`: release the line and clock in one bit (42_transmit R82). -/
def execHAckNack (s : State) : Result :=
  takeInterrupt (fun t => .next { arm .one { t with oe := false } with state := StateCode.txCheck }) s

/-- The TX_CHECK action (42_transmit R84): NACK ends the transaction; ACK sends the next byte, or ends the
transaction when none is left. -/
def txCheck (s : State) : Result :=
  if nackBit s.sr then .next (endTransaction s)
  else if s.dataIdx.toNat < s.bufLen.n then txNext s
  else .next (endTransaction s)

/-- `H_TX_CHECK` (42_transmit R84). -/
def execHTxCheck (s : State) : Result := takeInterrupt txCheck s

end Sys2Proof.Machine
end

