-- ==== Sys2Proof/Machine/Dispatch.lean ====
section
/-! DEFINITION. One arm per constructor of Instr. -/

namespace Sys2Proof.Machine

def exec (i : Instr) (s : State) : Host.Outcome State Fault Refusal :=
  match i with
  -- the handler's actions (40_dispatch, 41_address, 42_transmit)
  | .hStart cccc => Sys2Proof.Machine.execHStart cccc s
  | .hIdle => Sys2Proof.Machine.execHIdle s
  | .hAddress => Sys2Proof.Machine.execHAddress s
  | .hProcessAddress => Sys2Proof.Machine.execHProcessAddress s
  | .hRxCheck => Sys2Proof.Machine.execHRxCheck s
  | .hRxData => Sys2Proof.Machine.execHRxData s
  | .hTxData => Sys2Proof.Machine.execHTxData s
  | .hAckNack => Sys2Proof.Machine.execHAckNack s
  | .hTxCheck => Sys2Proof.Machine.execHTxCheck s
  | .hIllegal xxx => Sys2Proof.Machine.execHIllegal xxx s
  -- the producer's calls (43_codec_host)
  | .hostInit a => Sys2Proof.Machine.execHostInit a s
  | .setTransmitValue16 v => Sys2Proof.Machine.execSetTransmitValue16 v s
  | .setTransmitValue32 v => Sys2Proof.Machine.execSetTransmitValue32 v s
  | .pack16 v => Sys2Proof.Machine.execPack16 v s
  | .pack32 v => Sys2Proof.Machine.execPack32 v s
  | .unpack16 b0 b1 => Sys2Proof.Machine.execUnpack16 b0 b1 s
  | .unpack32 b0 b1 b2 b3 => Sys2Proof.Machine.execUnpack32 b0 b1 b2 b3 s
  | .irqMask => Sys2Proof.Machine.execIrqMask s
  | .irqRestore => Sys2Proof.Machine.execIrqRestore s
  -- the environment's events (44_environment)
  | .envStart x => Sys2Proof.Machine.execEnvStart x s
  | .envClock m => Sys2Proof.Machine.execEnvClock m s
  | .envStop x => Sys2Proof.Machine.execEnvStop x s

end Sys2Proof.Machine
end

