-- ==== Sys2Proof/Machine/Fetch.lean ====
section
/-! DEFINITION. Where the next instruction comes from: whose turn it is, and what that agent does next
(00_scope R6, 20_memory R39; log 1). -/

namespace Sys2Proof.Machine

/-- The refusal that names why a word is no instruction. -/
def refusalOf (e : DecodeError) : Refusal :=
  match e with
  | .hostReservedTag => .reservedHostTag
  | .hostMalformed => .malformedHostWord
  | .envReservedTag => .reservedEnvTag

/-- The handler's turn: the action the dispatch key selects (30_encoding R46, R47). -/
def fetchHandler (s : State) : Except Result (Instr × State) := .ok (decodeDispatch s.dispatchKey, s)

/-- The producer's turn: it is single-threaded, so a pack in progress goes on first (43_codec_host R100);
otherwise its next call; with none to make it does nothing (log 16). -/
def fetchProducer (s : State) : Except Result (Instr × State) :=
  match s.pendingWrites with
  | _ :: _ => .error (writeNext s)
  | [] =>
    match s.hostCalls with
    | [] => .error (.next s)
    | w :: rest =>
      match decodeHost w with
      | .ok i => .ok (i, { s with hostCalls := rest })
      | .error e => .error (.refused (refusalOf e))

/-- The environment's turn: its next event; with none it does nothing (log 16). -/
def fetchEnvironment (s : State) : Except Result (Instr × State) :=
  match s.busEvents with
  | [] => .error (.next s)
  | w :: rest =>
    match decodeEnv w with
    | .ok i => .ok (i, { s with busEvents := rest })
    | .error e => .error (.refused (refusalOf e))

/-- What the agent `a` does in its turn. -/
def fetchFor (a : Agent) (s : State) : Except Result (Instr × State) :=
  match a with
  | .handler => fetchHandler s
  | .producer => fetchProducer s
  | .environment => fetchEnvironment s

/-- Who moves when no turn is prescribed: an enabled handler preempts the foreground, the foreground comes before
the bus, and nobody moves when there is nothing to do (DESIGN CHOICE, log 1). -/
def defaultAgent (s : State) : Option Agent :=
  if s.handlerEnabled then some .handler
  else if s.pendingWrites ≠ [] ∨ s.hostCalls ≠ [] then some .producer
  else if s.busEvents ≠ [] then some .environment
  else none

/-- The next instruction and the state it runs in, or what the step answers when it runs no instruction: a byte
write of a pack in progress, nothing to do, or a word that is no instruction. -/
def fetch (s : State) : Except Result (Instr × State) :=
  match s.turns with
  | a :: rest => fetchFor a { s with turns := rest }
  | [] =>
    match defaultAgent s with
    | some a => fetchFor a s
    | none => .error (.next s)

/-- `s` with the word `c` where the next step takes it from. A dispatch key is `{STTIFG, STATE}` itself, and its
invocation needs the interrupt enabled and pending (60_exceptions R126); a HOST or ENV word goes to the head of
its agent's queue. The agent has the next turn (log 15). -/
def placeWord (s : State) (c : CodeWord) : State :=
  match c with
  | .dispatch key =>
    { s with
      sttifg := key.getLsbD 4
      state := key.extractLsb' 0 4
      ifg := s.ifg || !key.getLsbD 4
      sttie := true
      ie := true
      gie := true
      turns := .handler :: s.turns }
  | .host w => { s with pendingWrites := [], hostCalls := w :: s.hostCalls, turns := .producer :: s.turns }
  | .env e => { s with busEvents := e :: s.busEvents, turns := .environment :: s.turns }

/-- `placeWord` for a word of the opcode table; a table word of no row's width leaves the state as it is. -/
def placeTableWord (s : State) (nbits w : Nat) : State :=
  match CodeWord.ofTable nbits w with
  | some c => placeWord s c
  | none => s

end Sys2Proof.Machine
end

