-- ==== Sys2Proof/Machine/Script.lean ====
section
/-! DEFINITION. Event scripts (30_encoding R57, R58): what a statement denotes, the pseudo-statements, and loading
a script into the machine's queues. -/

namespace Sys2Proof.Machine

/-- A script statement (30_encoding R57). `more` is the model's own: the next byte write of a bare `pack` in
progress, which R100 makes a step of its own (log 10). -/
inductive Statement where
  | init (a : Nat)
  | set16 (v : BitVec 16)
  | set32 (v : BitVec 32)
  | pack16 (v : BitVec 16)
  | pack32 (v : BitVec 32)
  | mask
  | restore
  | start
  | clk (m : Bool)
  | stop
  | irq
  | more
  deriving DecidableEq, Repr

/-- One invocation of the handler: the action of the dispatch key (40_dispatch R60). -/
def invokeHandler (s : State) : Result := exec (decodeDispatch s.dispatchKey) s

/-- The step a statement denotes (30_encoding R57). -/
def Statement.run (st : Statement) (s : State) : Result :=
  match st with
  | .init a => exec (.hostInit a) s
  | .set16 v => exec (.setTransmitValue16 v) s
  | .set32 v => exec (.setTransmitValue32 v) s
  | .pack16 v => exec (.pack16 v) s
  | .pack32 v => exec (.pack32 v) s
  | .mask => exec .irqMask s
  | .restore => exec .irqRestore s
  | .start => exec (.envStart false) s
  | .clk m => exec (.envClock m) s
  | .stop => exec (.envStop false) s
  | .irq => invokeHandler s
  | .more => writeNext s

/-- The enabling condition of a statement (R57): the handler's of 60_exceptions R126, the clock's of
44_environment R109. R57 gives a call of the producer no enabling condition; that it needs the call before it to have
ended, and `more` a byte write to come, is the model's: DEDUCED (log 21), from the single-threaded producer of
20_memory R39. -/
def Statement.enabled (st : Statement) (s : State) : Bool :=
  match st with
  | .init _ | .set16 _ | .set32 _ | .pack16 _ | .pack32 _ | .mask | .restore => s.pendingWrites.isEmpty
  | .start | .stop => true
  | .clk _ => !s.clockHeld
  | .irq => s.handlerEnabled
  | .more => !s.pendingWrites.isEmpty

/-- A script, statement after statement. -/
def runScript (p : List Statement) (s : State) : Result :=
  match p with
  | [] => .next s
  | st :: rest => (st.run s).andThen (runScript rest)

/-- "A script is well formed only if each statement's enabling condition holds where it stands" (R57). R57 gives this
necessary condition and no more; that a script is also ill formed when an enabled statement is refused or faults
(`mask; mask`), and that the two together suffice, is the model's: DESIGN CHOICE (log 21), safe. -/
def scriptWellFormed (p : List Statement) (s : State) : Bool :=
  match p with
  | [] => true
  | st :: rest =>
    st.enabled s &&
      (match st.run s with
        | .next t => scriptWellFormed rest t
        | .fault _ => false
        | .refused _ => false)

/-! ## Pseudo-statements (30_encoding R58) -/

/-- `byte B`: eight clocks, the most significant bit first. -/
def scriptByte (b : Byte) : List Statement :=
  [.clk (b.getLsbD 7), .clk (b.getLsbD 6), .clk (b.getLsbD 5), .clk (b.getLsbD 4),
   .clk (b.getLsbD 3), .clk (b.getLsbD 2), .clk (b.getLsbD 1), .clk (b.getLsbD 0)]

/-- `rbyte`: the master releases the line for eight clocks. -/
def scriptRbyte : List Statement := scriptByte 0xFF#8

/-- `ack`. -/
def scriptAck : List Statement := [.clk false]

/-- `nack`. -/
def scriptNack : List Statement := [.clk true]

/-- `rbit`: the master releases the line for one clock. -/
def scriptRbit : List Statement := [.clk true]

/-- `addr A R`: the address byte `{A, R}`. -/
def scriptAddr (a : BitVec 7) (r : Bool) : List Statement := scriptByte (a ++ BitVec.ofBool r)

/-- `k` data bytes, each answered by the master with an acknowledge. -/
def scriptAckedBytes (k : Nat) : List Statement :=
  match k with
  | 0 => []
  | k + 1 => scriptRbyte ++ [.irq] ++ scriptAck ++ [.irq] ++ scriptAckedBytes k

/-- The address phase of a transaction: start, the address byte, the engine's acknowledge bit. -/
def scriptAddressPhase (a : BitVec 7) (r : Bool) : List Statement :=
  [.start, .irq] ++ scriptAddr a r ++ [.irq] ++ scriptRbit ++ [.irq]

/-- `read A n`, for `n >= 1`: `n - 1` acknowledged bytes and a last one answered with NACK. -/
def scriptRead (a : BitVec 7) (n : Nat) : List Statement :=
  scriptAddressPhase a true ++ scriptAckedBytes (n - 1) ++ scriptRbyte ++ [.irq] ++ scriptNack ++ [.irq]

/-! ## Loading a script -/

/-- Whose step a statement denotes (30_encoding R57). -/
def Statement.agent (st : Statement) : Agent :=
  match st with
  | .init _ | .set16 _ | .set32 _ | .pack16 _ | .pack32 _ | .mask | .restore | .more => .producer
  | .start | .clk _ | .stop => .environment
  | .irq => .handler

/-- The word a statement puts into its agent's queue, `none` where its step needs no word. -/
def Statement.word (st : Statement) : Option CodeWord :=
  match st with
  | .init a => some (encode (.hostInit a))
  | .set16 v => some (encode (.setTransmitValue16 v))
  | .set32 v => some (encode (.setTransmitValue32 v))
  | .pack16 v => some (encode (.pack16 v))
  | .pack32 v => some (encode (.pack32 v))
  | .mask => some (encode .irqMask)
  | .restore => some (encode .irqRestore)
  | .start => some (encode (.envStart false))
  | .clk m => some (encode (.envClock m))
  | .stop => some (encode (.envStop false))
  | .irq => none
  | .more => none

/-- `s` with statement `st` queued after what is queued already. -/
def queueStatement (s : State) (st : Statement) : State :=
  let t := { s with turns := s.turns ++ [st.agent] }
  match st.word with
  | some (.host w) => { t with hostCalls := s.hostCalls ++ [w] }
  | some (.env e) => { t with busEvents := s.busEvents ++ [e] }
  | some (.dispatch _) => t
  | none => t

/-- `s` with a script queued: `p.length` steps then run it (log 15). -/
def State.withScript (s : State) (p : List Statement) : State := p.foldl queueStatement s

end Sys2Proof.Machine
end

