-- ==== Sys2Proof/Machine/Trace.lean ====
section
/-! DEFINITION. Reading the ghost trace `WIRE`, and the labels of the ways a transaction ends (44_environment R110,
60_exceptions R121 to R124). -/

namespace Sys2Proof.Machine

/-- The eight clock entries of one byte, most significant bit first, with `OE = oe` throughout. -/
def byteEntries (oe : Bool) (b : Byte) : List WireEntry :=
  [.clock (b.getLsbD 7) oe, .clock (b.getLsbD 6) oe, .clock (b.getLsbD 5) oe, .clock (b.getLsbD 4) oe,
   .clock (b.getLsbD 3) oe, .clock (b.getLsbD 2) oe, .clock (b.getLsbD 1) oe, .clock (b.getLsbD 0) oe]

/-- The byte of eight line bits, the first in bit 7 (20_memory R33). -/
def byteOfBits (b7 b6 b5 b4 b3 b2 b1 b0 : Bool) : Byte :=
  BitVec.ofBool b7 ++ BitVec.ofBool b6 ++ BitVec.ofBool b5 ++ BitVec.ofBool b4 ++
    BitVec.ofBool b3 ++ BitVec.ofBool b2 ++ BitVec.ofBool b1 ++ BitVec.ofBool b0

/-- The clock entries after the last start marker; a stop marker is passed over, since the engine does not see
it. -/
def clocksOfLastFrame (w : List WireEntry) (acc : List (Bool × Bool)) : List (Bool × Bool) :=
  match w with
  | [] => acc
  | .start :: rest => clocksOfLastFrame rest []
  | .stop :: rest => clocksOfLastFrame rest acc
  | .clock l oe :: rest => clocksOfLastFrame rest (acc ++ [(l, oe)])

/-- The data bytes of a frame after its address phase: groups of eight clocks with `OE = 1` throughout, each
followed by one acknowledge clock (30_encoding R51, 44_environment R110). -/
def dataGroups (cs : List (Bool × Bool)) : List Byte :=
  match cs with
  | (l7, o7) :: (l6, o6) :: (l5, o5) :: (l4, o4) :: (l3, o3) :: (l2, o2) :: (l1, o1) :: (l0, o0) :: _ack :: rest =>
    if o7 && o6 && o5 && o4 && o3 && o2 && o1 && o0 then
      byteOfBits l7 l6 l5 l4 l3 l2 l1 l0 :: dataGroups rest
    else []
  | [(l7, o7), (l6, o6), (l5, o5), (l4, o4), (l3, o3), (l2, o2), (l1, o1), (l0, o0)] =>
    if o7 && o6 && o5 && o4 && o3 && o2 && o1 && o0 then [byteOfBits l7 l6 l5 l4 l3 l2 l1 l0] else []
  | _ => []

/-- The "wire bytes after ACK" of the last transaction (44_environment R110): the data bytes after its eight
address clocks and its acknowledge clock. -/
def wireBytes (w : List WireEntry) : List Byte := dataGroups ((clocksOfLastFrame w []).drop 9)

/-- The ways a transaction ends (60_exceptions R121 to R124); labels for a trace, nothing the hardware records
(R120). A short transfer (R123) is no label of its own: it ends by the master's NACK or by the next start. -/
inductive TransactionEnd where
  | addrMismatch
  | earlyNack
  | preempted
  | complete
  deriving DecidableEq, Repr

/-- How the handler invocation that `s` is about to take ends the transaction in progress, if it does
(60_exceptions R121, R122, R124). -/
def State.transactionEnd (s : State) : Option TransactionEnd :=
  if s.sttifg then (if s.state = StateCode.idle then none else some .preempted)
  else if s.state = StateCode.processAddress then
    (if s.sr = fold s.devAddr s.sr then none else some .addrMismatch)
  else if s.state = StateCode.txCheck then
    (if s.dataIdx.toNat < s.bufLen.n then (if nackBit s.sr then some .earlyNack else none) else some .complete)
  else none

end Sys2Proof.Machine
end

