-- ==== Sys2Proof/Safety.lean ====
section
/-! DEFINITION. What a safe state and a safe run are: the invariants of 10_state R26 to R29, the quiescent state of
70_reset R163. -/

namespace Sys2Proof.Machine

/-- The states the handler leaves between invocations: never `S_ADDRESS`, `S_RX_DATA` or an odd code (10_state R10,
40_dispatch R64, R65). -/
def restingStates : List StateCode :=
  [StateCode.idle, StateCode.processAddress, StateCode.rxCheck, StateCode.txData, StateCode.ackNack,
   StateCode.txCheck]

/-- The "safe, re-armable IDLE/ready state" (10_state R29). -/
structure State.Ready (s : State) : Prop where
  idle : s.state = StateCode.idle
  cursor : s.dataIdx = 0#3
  device : s.devAddr = s.canon
  released : s.oe = false

/-- A quiescent state: no handler step is enabled and no clock has an effect until the next start (70_reset
R163). -/
structure State.Quiescent (s : State) : Prop where
  idle : s.state = StateCode.idle
  noStart : s.sttifg = false
  noCompletion : s.ifg = false
  unarmed : s.cnt = 0#4

/-- The buffer and the byte writes to come. -/
structure BufferInv (s : State) : Prop where
  /-- The buffer's cells are in canonical form. -/
  memory : Memory.wf s.txbuf = true
  /-- No cell lies outside the buffer (20_memory R34). -/
  inBuffer : ∀ c ∈ s.txbuf, c.1 < s.bufLen.n
  /-- No byte write to come lies outside the buffer. -/
  pending : ∀ w ∈ s.pendingWrites, w.1 < s.bufLen.n

/-- The engine and the peripheral. -/
structure EngineInv (s : State) : Prop where
  /-- `0 <= DATA_IDX <= N` (10_state R26). -/
  cursor : s.dataIdx.toNat ≤ s.bufLen.n
  /-- `CNT` lies in 0..8 (R18). -/
  count : s.cnt.toNat ≤ 8
  /-- The protocol state is one the handler leaves (R10). -/
  resting : s.state ∈ restingStates
  /-- `DEV_ADDR` is `CANON` or `CANON + 1` (R28). -/
  device : s.devAddr = s.canon ∨ s.devAddr = s.canon + 1
  /-- At entry to PROCESS_ADDRESS `DEV_ADDR = CANON` (R28). -/
  unfolded : s.state = StateCode.processAddress → s.devAddr = s.canon
  /-- The cursor is 0 until the first byte is loaded (R27). -/
  cursorZero : s.state = StateCode.processAddress ∨ s.state = StateCode.rxCheck ∨ s.state = StateCode.txData →
    s.dataIdx = 0#3
  /-- From the first byte on it is not. -/
  cursorMoved : s.state = StateCode.ackNack ∨ s.state = StateCode.txCheck → s.dataIdx ≠ 0#3
  /-- In `S_IDLE` the engine is ready (R29). -/
  ready : s.state = StateCode.idle → s.Ready
  /-- In `S_IDLE` nothing is armed (42_transmit R86). -/
  unarmed : s.state = StateCode.idle → s.cnt = 0#4
  /-- The engine drives the line in TX_DATA, RX_CHECK and ACK_NACK (70_reset R149). -/
  driving : s.state = StateCode.txData ∨ s.state = StateCode.rxCheck ∨ s.state = StateCode.ackNack → s.oe = true
  /-- It does not while it waits for the master's acknowledge (42_transmit R82). -/
  listening : s.state = StateCode.txCheck → s.oe = false
  /-- The completion flag is up only when the count is used up (10_state R17). -/
  completed : s.ifg = true → s.cnt = 0#4
  /-- A transaction in progress has bits armed or a completion to serve. -/
  live : s.state ≠ StateCode.idle → s.cnt ≠ 0#4 ∨ s.ifg = true

/-- The one-time set-up. -/
structure SetupInv (s : State) : Prop where
  /-- After `initialize` the configuration is that of 10_state R20. -/
  configured : s.initDone = true → s.sttie = true ∧ s.ie = true ∧ s.cfg = configuredCfg
  /-- Before it the engine is idle and no interrupt is enabled (R22, R24). -/
  dormant : s.initDone = false →
    s.state = StateCode.idle ∧ s.gie = false ∧ s.gieSaved = false ∧ s.sttie = false ∧ s.ie = false

/-- The invariant of the machine: it holds at reset and every step of every agent keeps it. -/
structure Inv (s : State) : Prop where
  buffer : BufferInv s
  engine : EngineInv s
  setup : SetupInv s

/-- A run of `k` steps is safe when no step of it ends in a fault. -/
def SafeRun (k : Nat) (s : State) : Prop := ∀ e, Host.Core.run Sys2Proof.core k s ≠ .fault e

/-! ## Kinds of instruction -/

/-- The handler's actions (format DISPATCH). -/
def isHandlerAction (i : Instr) : Bool :=
  match encode i with
  | .dispatch _ => true
  | .host _ => false
  | .env _ => false

/-- The producer's calls (format HOST). -/
def isProducerCall (i : Instr) : Bool :=
  match encode i with
  | .dispatch _ => false
  | .host _ => true
  | .env _ => false

/-- The environment's events (format ENV). -/
def isBusEvent (i : Instr) : Bool :=
  match encode i with
  | .dispatch _ => false
  | .host _ => false
  | .env _ => true

end Sys2Proof.Machine
end

