-- ==== Sys2Proof/Certificates/Slice0/Obligations.lean ====
section
/-! DEFINITION. The statements for the provers. -/

open Sys2Proof Sys2Proof.Machine

/-! ## Encoding -/

/-- Words written out from the encodings of 30_encoding R47 and R59. -/
def Obligations.SpecWordsDecode : Prop :=
  decode (.dispatch 0b11100#5) = .ok (.hStart 0b1100#4) ∧
  decode (.dispatch 0b00100#5) = .ok .hProcessAddress ∧
  decode (.dispatch 0b01110#5) = .ok .hTxCheck ∧
  decode (.dispatch 0b00101#5) = .ok (.hIllegal 0b010#3) ∧
  decode (.host ⟨11, 0b00000100100⟩) = .ok (.hostInit 0x24) ∧
  decode (.host ⟨20, 0x11234⟩) = .ok (.setTransmitValue16 0x1234#16) ∧
  decode (.host ⟨36, 0x612345678⟩) = .ok (.unpack32 0x12#8 0x34#8 0x56#8 0x78#8) ∧
  decode (.host ⟨4, 0b0111⟩) = .ok .irqMask ∧
  decode (.env 0b011#3) = .ok (.envClock true)

/-- The opcode map of 30_encoding R47: every row selects its operation, and every key lies under exactly one row. -/
def Obligations.DispatchMapCoversEveryKeyOnce : Prop :=
  ∀ k : DispatchKey,
    (k &&& 0x10#5 = 0x10#5 → decodeDispatch k = .hStart (k.extractLsb' 0 4)) ∧
    (k = 0x00#5 → decodeDispatch k = .hIdle) ∧
    (k = 0x02#5 → decodeDispatch k = .hAddress) ∧
    (k = 0x04#5 → decodeDispatch k = .hProcessAddress) ∧
    (k = 0x06#5 → decodeDispatch k = .hRxCheck) ∧
    (k = 0x08#5 → decodeDispatch k = .hRxData) ∧
    (k = 0x0A#5 → decodeDispatch k = .hTxData) ∧
    (k = 0x0C#5 → decodeDispatch k = .hAckNack) ∧
    (k = 0x0E#5 → decodeDispatch k = .hTxCheck) ∧
    (k &&& 0x11#5 = 0x01#5 → decodeDispatch k = .hIllegal (k.extractLsb' 1 3)) ∧
    [decide (k &&& 0x10#5 = 0x10#5), decide (k = 0x00#5), decide (k = 0x02#5), decide (k = 0x04#5),
      decide (k = 0x06#5), decide (k = 0x08#5), decide (k = 0x0A#5), decide (k = 0x0C#5), decide (k = 0x0E#5),
      decide (k &&& 0x11#5 = 0x01#5)].count true = 1

/-- No operand bit of any encoding is dropped (30_encoding R47, R59). -/
def Obligations.DecodeUndoesEncode : Prop :=
  ∀ i : Instr, i.wf = true → decode (encode i) = .ok i

/-- Every word the decoder accepts is the word of the instruction it gives, so no two words mean the same
(30_encoding R47, R59). That no HOST word of a width other than its tag's, or of a number too big for its width, is
accepted is the model's choice (log 14). -/
def Obligations.EncodeUndoesDecode : Prop :=
  ∀ (c : CodeWord) (i : Instr), decode c = .ok i → encode i = c ∧ i.wf = true

/-- HOST tags 9 to 15 and ENV tag `11` are reserved: the decoder rejects them and the step refuses by name
(30_encoding R59). -/
def Obligations.ReservedTagsAreRefused : Prop :=
  (∀ w : HostWord, 4 ≤ w.width → w.bits < 2 ^ w.width → 9 ≤ w.bits / 2 ^ (w.width - 4) →
    decode (.host w) = .error .hostReservedTag ∧
    ∀ (s : State) (ts : List Agent) (ws : List HostWord),
      s.turns = .producer :: ts → s.pendingWrites = [] → s.hostCalls = w :: ws →
      step s = .refused .reservedHostTag) ∧
  (∀ m : Bool,
    decode (.env (0b11#2 ++ BitVec.ofBool m)) = .error .envReservedTag ∧
    ∀ (s : State) (ts : List Agent) (es : List EnvWord),
      s.turns = .environment :: ts → s.busEvents = (0b11#2 ++ BitVec.ofBool m) :: es →
      step s = .refused .reservedEnvTag)

/-! ## Reset and the step -/

/-- Power-on: `STATE = S_IDLE`, the ghosts empty, no interrupt enabled (10_state R22, R24). -/
def Obligations.ResetIsIdleWithInterruptsOff : Prop :=
  State.reset.state = 0#4 ∧ State.reset.initDone = false ∧ State.reset.wire = [] ∧
  State.reset.gie = false ∧ State.reset.sttie = false ∧ State.reset.ie = false ∧
  invokeHandler State.reset = .refused .handlerWithoutPendingFlag

/-- In the turn of an agent, the step is `exec` of the instruction decoded for that agent, with its turn and its
word taken off the queues: the handler's from the key `{STTIFG, STATE}`, the producer's from its next call, the
environment's from its next event. The queues are the model's (log 1). -/
def Obligations.StepRunsTheDecodedInstruction : Prop :=
  ∀ (s : State) (ts : List Agent),
    (s.turns = .handler :: ts →
      step s = exec (decodeDispatch (BitVec.ofBool s.sttifg ++ s.state)) { s with turns := ts }) ∧
    (∀ (w : HostWord) (ws : List HostWord) (i : Instr),
      s.turns = .producer :: ts → s.pendingWrites = [] → s.hostCalls = w :: ws → decode (.host w) = .ok i →
      step s = exec i { s with turns := ts, hostCalls := ws }) ∧
    (∀ (e : EnvWord) (es : List EnvWord) (i : Instr),
      s.turns = .environment :: ts → s.busEvents = e :: es → decode (.env e) = .ok i →
      step s = exec i { s with turns := ts, busEvents := es })

/-- With no turn prescribed: an enabled handler moves first, then the producer (a pack in progress before its next
call), then the environment, and with nothing to do the state stays. The order is the model's choice (log 1). -/
def Obligations.StepWithoutTurnsTakesTheDefaultOrder : Prop :=
  ∀ s : State, s.turns = [] →
    (s.handlerEnabled = true → step s = exec (decodeDispatch s.dispatchKey) s) ∧
    (∀ (w : HostWord) (ws : List HostWord) (i : Instr), s.handlerEnabled = false → s.pendingWrites = [] →
      s.hostCalls = w :: ws → decode (.host w) = .ok i → step s = exec i { s with hostCalls := ws }) ∧
    (∀ (k : Nat) (b : Byte) (rest : List (Nat × Byte)), s.handlerEnabled = false →
      s.pendingWrites = (k, b) :: rest → k < s.bufLen.n →
      step s = .next { s with txbuf := Memory.write s.txbuf k b, pendingWrites := rest }) ∧
    (∀ (e : EnvWord) (es : List EnvWord) (i : Instr), s.handlerEnabled = false → s.pendingWrites = [] →
      s.hostCalls = [] → s.busEvents = e :: es → decode (.env e) = .ok i →
      step s = exec i { s with busEvents := es }) ∧
    (s.handlerEnabled = false → s.pendingWrites = [] → s.hostCalls = [] → s.busEvents = [] → step s = .next s)

/-- A table word placed by `withFetchWord` is what the very next step runs, with the queues as they were before
(log 15). -/
def Obligations.PlacedWordRunsNext : Prop :=
  ∀ (s : State) (nbits w : Nat) (i : Instr), decodeTableWord nbits w = some i →
    ∃ u : State, step (s.withFetchWord nbits w) = exec i u ∧ u.turns = s.turns ∧ u.hostCalls = s.hostCalls ∧
      u.busEvents = s.busEvents ∧ u.txbuf = s.txbuf ∧ u.wire = s.wire ∧ u.ownAddr = s.ownAddr ∧
      u.devAddr = s.devAddr ∧ u.sr = s.sr ∧ u.dataIdx = s.dataIdx ∧ u.bufLen = s.bufLen

/-! ## The handler's actions -/

/-- 60_exceptions R126: without a pending enabled flag every handler operation is refused; with `GIE = 0` an
action waits and nothing changes (the model's reading of "not enabled", log 2). -/
def Obligations.HandlerWaitsForGieAndNeedsAFlag : Prop :=
  ∀ (i : Instr) (s : State), isHandlerAction i = true →
    (((s.sttifg && s.sttie) || (s.ifg && s.ie)) = false → exec i s = .refused .handlerWithoutPendingFlag) ∧
    (((s.sttifg && s.sttie) || (s.ifg && s.ie)) = true → s.gie = false → i ≠ .hRxData →
      (∀ xxx, i ≠ .hIllegal xxx) → exec i s = .next s) ∧
    (((s.sttifg && s.sttie) || (s.ifg && s.ie)) = true → s.gie = true →
      exec i s ≠ .refused .handlerWithoutPendingFlag)

/-- 40_dispatch R61 and 41_address R70: the ADDRESS action, reached by the override from any state code or by its
own key. -/
def Obligations.AddressActionRestartsTheTransaction : Prop :=
  ∀ (s : State) (i : Instr), (∃ cccc, i = .hStart cccc) ∨ i = .hAddress →
    s.irq = true → s.gie = true →
    exec i s = .next { s with
      dataIdx := 0#3, devAddr := s.ownAddr ++ 0#1, cnt := 8#4, sttifg := false, state := 4#4, ifg := false }

/-- 40_dispatch R63: the IDLE action does nothing, and the exit clears `IFG`. -/
def Obligations.IdleActionDoesNothing : Prop :=
  ∀ s : State, s.irq = true → s.gie = true → exec .hIdle s = .next { s with ifg := false }

/-- 41_address R72: fold, drive the line, compare, answer with one bit. -/
def Obligations.ProcessAddressFoldsComparesAndAnswers : Prop :=
  ∀ (s : State) (d : Byte), s.irq = true → s.gie = true →
    d = (if s.sr.getLsbD 0 = true then s.devAddr + 1#8 else s.devAddr) →
    (s.sr = d → exec .hProcessAddress s = .next { s with
      devAddr := d, oe := true, sr := 0x00#8, state := 10#4, cnt := 1#4, ifg := false }) ∧
    (s.sr ≠ d → exec .hProcessAddress s = .next { s with
      devAddr := d, oe := true, sr := 0xFF#8, state := 6#4, cnt := 1#4, ifg := false })

/-- 41_address R71, R73: with the stored address canonical, a received byte matches exactly when its top seven
bits are the configured address, for either value of the read/write bit. -/
def Obligations.MatchIsOnTheSevenAddressBits : Prop :=
  ∀ s : State, s.irq = true → s.gie = true → s.devAddr = s.ownAddr ++ 0#1 →
    ∃ t : State, exec .hProcessAddress s = .next t ∧
      (s.sr.extractLsb' 1 7 = s.ownAddr → t.state = 10#4 ∧ t.sr = 0x00#8) ∧
      (s.sr.extractLsb' 1 7 ≠ s.ownAddr → t.state = 6#4 ∧ t.sr = 0xFF#8)

/-- 41_address R74, R75: `prepStart`, back to `S_IDLE`. -/
def Obligations.RxCheckReprimesAndGoesIdle : Prop :=
  ∀ s : State, s.irq = true → s.gie = true →
    exec .hRxCheck s = .next { s with oe := false, devAddr := s.ownAddr ++ 0#1, state := 0#4, ifg := false }

/-- 40_dispatch R64, R65: the reserved state and the codes that name no state have no action. That the refusal
comes before the question of `GIE`, so also with `GIE = 0`, is the model's reading (log 12). -/
def Obligations.ReservedAndIllegalStatesAreRefused : Prop :=
  ∀ s : State, s.irq = true →
    exec .hRxData s = .refused .rxDataHasNoAction ∧
    ∀ xxx : BitVec 3, exec (.hIllegal xxx) s = .refused .illegalStateCode

/-- 42_transmit R80, R81 and 20_memory R34: the byte at the cursor is loaded and eight bits are armed; a cursor
outside the buffer is the fault. -/
def Obligations.TxDataLoadsTheByteAtTheCursor : Prop :=
  ∀ s : State, s.irq = true → s.gie = true →
    (s.dataIdx.toNat < s.bufLen.n → exec .hTxData s = .next { s with
      oe := true, sr := s.bufByte s.dataIdx.toNat, cnt := 8#4, dataIdx := s.dataIdx + 1#3, state := 12#4,
      ifg := false }) ∧
    (s.bufLen.n ≤ s.dataIdx.toNat → exec .hTxData s = .fault .bufferIndexOutOfRange)

/-- 42_transmit R82: release the line and clock in one bit. -/
def Obligations.AckNackReleasesTheLine : Prop :=
  ∀ s : State, s.irq = true → s.gie = true →
    exec .hAckNack s = .next { s with oe := false, cnt := 1#4, state := 14#4, ifg := false }

/-- 42_transmit R84: NACK ends the transaction; ACK sends the next byte while there is one, and ends it when all
are sent. -/
def Obligations.TxCheckActsOnTheAcknowledgeBit : Prop :=
  ∀ s : State, s.irq = true → s.gie = true →
    (s.sr.getLsbD 0 = true ∨ s.bufLen.n ≤ s.dataIdx.toNat → exec .hTxCheck s = .next { s with
      dataIdx := 0#3, oe := false, devAddr := s.ownAddr ++ 0#1, state := 0#4, ifg := false }) ∧
    (s.sr.getLsbD 0 = false → s.dataIdx.toNat < s.bufLen.n → exec .hTxCheck s = .next { s with
      oe := true, sr := s.bufByte s.dataIdx.toNat, cnt := 8#4, dataIdx := s.dataIdx + 1#3, state := 12#4,
      ifg := false })

/-- 40_dispatch R66: the complete control-transfer relation of one handler invocation, from every state that names
an action. In TX_DATA the cursor lies in the buffer (10_state R27). -/
def Obligations.HandlerFollowsTheTransitionTable : Prop :=
  ∀ s : State, s.irq = true → s.gie = true → (s.state = 10#4 → s.dataIdx.toNat < s.bufLen.n) →
    s.sttifg = true ∨ (s.state.getLsbD 0 = false ∧ s.state ≠ 8#4) →
    ∃ t : State, invokeHandler s = .next t ∧
      (s.sttifg = true → t.state = 4#4) ∧
      (s.sttifg = false → s.state = 0#4 → t.state = 0#4) ∧
      (s.sttifg = false → s.state = 2#4 → t.state = 4#4) ∧
      (s.sttifg = false → s.state = 4#4 → s.sr = fold s.devAddr s.sr → t.state = 10#4) ∧
      (s.sttifg = false → s.state = 4#4 → s.sr ≠ fold s.devAddr s.sr → t.state = 6#4) ∧
      (s.sttifg = false → s.state = 6#4 → t.state = 0#4) ∧
      (s.sttifg = false → s.state = 10#4 → t.state = 12#4) ∧
      (s.sttifg = false → s.state = 12#4 → t.state = 14#4) ∧
      (s.sttifg = false → s.state = 14#4 → s.sr.getLsbD 0 = true → t.state = 0#4) ∧
      (s.sttifg = false → s.state = 14#4 → s.sr.getLsbD 0 = false → s.dataIdx.toNat < s.bufLen.n →
        t.state = 12#4) ∧
      (s.sttifg = false → s.state = 14#4 → s.sr.getLsbD 0 = false → s.dataIdx.toNat = s.bufLen.n →
        t.state = 0#4)

/-- 40_dispatch R62: every invocation that is taken ends with `IFG = 0`, and only the ADDRESS action writes
`STTIFG`. -/
def Obligations.HandlerExitClearsTheCompletionFlag : Prop :=
  ∀ (i : Instr) (s t : State), isHandlerAction i = true → s.gie = true → exec i s = .next t →
    t.ifg = false ∧ ((∀ cccc, i ≠ .hStart cccc) → i ≠ .hAddress → t.sttifg = s.sttifg)

/-- The frame of the handler (10_state R14, 60_exceptions R134, R130): whatever it does, the buffer, the address,
the configuration, the enables, the producer's state and the trace stay. -/
def Obligations.HandlerLeavesForegroundStateAlone : Prop :=
  ∀ (i : Instr) (s t : State), isHandlerAction i = true → exec i s = .next t →
    (∀ a : Nat, Memory.read t.txbuf a = Memory.read s.txbuf a) ∧
    t = { s with
      state := t.state, devAddr := t.devAddr, dataIdx := t.dataIdx, sr := t.sr, sttifg := t.sttifg,
      ifg := t.ifg, cnt := t.cnt, oe := t.oe }

/-! ## The producer's operations -/

/-- 43_codec_host R98: the one-time set-up, and what it refuses. -/
def Obligations.InitializeConfiguresOnce : Prop :=
  ∀ (s : State) (a : Nat),
    (s.initDone = false → a ≤ 127 → exec (.hostInit a) s = .next { s with
      ownAddr := BitVec.ofNat 7 a
      devAddr := BitVec.ofNat 7 a ++ 0#1
      cfg := ⟨true, true, false, false, true, true, false⟩
      sttie := true
      ie := true
      dataIdx := 0#3
      oe := false
      cnt := 0#4
      sttifg := false
      ifg := false
      gie := true
      initDone := true }) ∧
    (s.initDone = false → 127 < a → exec (.hostInit a) s = .refused .addressOutOfRange) ∧
    (s.initDone = true → exec (.hostInit a) s = .refused .reinitialize)

/-- 43_codec_host R95: the critical section; nesting is refused. The ghost `inCritical`, and `irq_restore` in every
state, also outside a section, are the model's choice (log 9). -/
def Obligations.CriticalSectionSavesAndRestoresGie : Prop :=
  ∀ s : State,
    (s.inCritical = false → exec .irqMask s = .next { s with
      gieSaved := s.gie, gie := false, inCritical := true }) ∧
    (s.inCritical = true → exec .irqMask s = .refused .nestedCriticalSection) ∧
    exec .irqRestore s = .next { s with gie := s.gieSaved, inCritical := false }

/-- 43_codec_host R96 with the layout of 30_encoding R52: the publish of a 16-bit value is one step, writes the
two bytes most significant first, and leaves everything else; `GIE` is as before and its old value is what was
saved. The producer has no pack in progress. -/
def Obligations.Publish16IsOneAtomicStep : Prop :=
  ∀ (s : State) (v : BitVec 16), s.bufLen = .two → s.inCritical = false → s.pendingWrites = [] →
    ∃ t : State, exec (.setTransmitValue16 v) s = .next t ∧
      t.bufByte 0 = v.extractLsb' 8 8 ∧ t.bufByte 1 = v.extractLsb' 0 8 ∧
      (∀ a : Nat, a ≠ 0 → a ≠ 1 → Memory.read t.txbuf a = Memory.read s.txbuf a) ∧
      t = { s with txbuf := t.txbuf, gieSaved := s.gie }

/-- 43_codec_host R97: likewise for 32 bits and four bytes. -/
def Obligations.Publish32IsOneAtomicStep : Prop :=
  ∀ (s : State) (v : BitVec 32), s.bufLen = .four → s.inCritical = false → s.pendingWrites = [] →
    ∃ t : State, exec (.setTransmitValue32 v) s = .next t ∧
      t.bufByte 0 = v.extractLsb' 24 8 ∧ t.bufByte 1 = v.extractLsb' 16 8 ∧
      t.bufByte 2 = v.extractLsb' 8 8 ∧ t.bufByte 3 = v.extractLsb' 0 8 ∧
      (∀ a : Nat, 4 ≤ a → Memory.read t.txbuf a = Memory.read s.txbuf a) ∧
      t = { s with txbuf := t.txbuf, gieSaved := s.gie }

/-- 43_codec_host R90, R91 inside a critical section: the whole buffer is written, atomically for the handler
(20_memory R36). That the write is one step, with no bus event inside it either, is the model's choice (log 10). The
producer has no pack in progress. -/
def Obligations.MaskedPackWritesTheWholeBuffer : Prop :=
  ∀ s : State, s.inCritical = true → s.pendingWrites = [] →
    (∀ v : BitVec 16, s.bufLen = .two →
      ∃ t : State, exec (.pack16 v) s = .next t ∧
        t.bufByte 0 = v.extractLsb' 8 8 ∧ t.bufByte 1 = v.extractLsb' 0 8 ∧
        (∀ a : Nat, a ≠ 0 → a ≠ 1 → Memory.read t.txbuf a = Memory.read s.txbuf a) ∧
        t = { s with txbuf := t.txbuf }) ∧
    (∀ v : BitVec 32, s.bufLen = .four →
      ∃ t : State, exec (.pack32 v) s = .next t ∧
        t.bufByte 0 = v.extractLsb' 24 8 ∧ t.bufByte 1 = v.extractLsb' 16 8 ∧
        t.bufByte 2 = v.extractLsb' 8 8 ∧ t.bufByte 3 = v.extractLsb' 0 8 ∧
        (∀ a : Nat, 4 ≤ a → Memory.read t.txbuf a = Memory.read s.txbuf a) ∧
        t = { s with txbuf := t.txbuf })

/-- 20_memory R36, 43_codec_host R100: a bare pack outside a critical section, whatever `GIE` is, is separate byte
writes in index order. The call performs the first and leaves the others to later turns of the producer (the list of
writes to come is the model's, log 10). -/
def Obligations.UnmaskedPackWritesOneBytePerStep : Prop :=
  ∀ s : State, s.inCritical = false → s.pendingWrites = [] →
    (∀ v : BitVec 16, s.bufLen = .two →
      exec (.pack16 v) s = .next { s with
        txbuf := Memory.write s.txbuf 0 (v.extractLsb' 8 8), pendingWrites := [(1, v.extractLsb' 0 8)] }) ∧
    (∀ v : BitVec 32, s.bufLen = .four →
      exec (.pack32 v) s = .next { s with
        txbuf := Memory.write s.txbuf 0 (v.extractLsb' 24 8),
        pendingWrites := [(1, v.extractLsb' 16 8), (2, v.extractLsb' 8 8), (3, v.extractLsb' 0 8)] }) ∧
    (∀ (u : State) (ts : List Agent) (i : Nat) (b : Byte) (rest : List (Nat × Byte)),
      u.turns = .producer :: ts → u.pendingWrites = (i, b) :: rest → i < u.bufLen.n →
      step u = .next { u with turns := ts, txbuf := Memory.write u.txbuf i b, pendingWrites := rest })

/-- 43_codec_host R92, R93: the value is handed to the caller and no state of the block is written (where the
model keeps the returned value is log 11). -/
def Obligations.UnpackReturnsTheBigEndianValue : Prop :=
  (∀ (s : State) (b0 b1 : Byte), ∃ v : BitVec 16,
    exec (.unpack16 b0 b1) s = .next { s with unpacked := some (.u16 v) } ∧
    v.toNat = b0.toNat * 256 + b1.toNat) ∧
  (∀ (s : State) (b0 b1 b2 b3 : Byte), ∃ v : BitVec 32,
    exec (.unpack32 b0 b1 b2 b3) s = .next { s with unpacked := some (.u32 v) } ∧
    v.toNat = ((b0.toNat * 256 + b1.toNat) * 256 + b2.toNat) * 256 + b3.toNat)

/-- 43_codec_host R94: the codec is a bijection, both widths. -/
def Obligations.CodecRoundTrips : Prop :=
  (∀ v : BitVec 16, ∃ b0 b1 : Byte, packBytes16 v = [b0, b1] ∧ unpackValue16 b0 b1 = v) ∧
  (∀ b0 b1 : Byte, packBytes16 (unpackValue16 b0 b1) = [b0, b1]) ∧
  (∀ v : BitVec 32, ∃ b0 b1 b2 b3 : Byte, packBytes32 v = [b0, b1, b2, b3] ∧ unpackValue32 b0 b1 b2 b3 = v) ∧
  (∀ b0 b1 b2 b3 : Byte, packBytes32 (unpackValue32 b0 b1 b2 b3) = [b0, b1, b2, b3])

/-- 43_codec_host R99: a value of the wrong width is refused, never truncated, padded or partly written. For a
publish inside a critical section the nesting could be refused instead; that the width comes first is the model's
choice (log 18). -/
def Obligations.WrongWidthIsRefused : Prop :=
  ∀ s : State,
    (s.bufLen = .four → ∀ v : BitVec 16,
      exec (.setTransmitValue16 v) s = .refused .widthMismatch ∧ exec (.pack16 v) s = .refused .widthMismatch) ∧
    (s.bufLen = .two → ∀ v : BitVec 32,
      exec (.setTransmitValue32 v) s = .refused .widthMismatch ∧ exec (.pack32 v) s = .refused .widthMismatch)

/-- A publish contains `irq_mask()`, so inside a critical section it is the nesting that 43_codec_host R95
refuses. -/
def Obligations.PublishInsideACriticalSectionIsRefused : Prop :=
  ∀ s : State, s.inCritical = true →
    (s.bufLen = .two → ∀ v : BitVec 16, exec (.setTransmitValue16 v) s = .refused .nestedCriticalSection) ∧
    (s.bufLen = .four → ∀ v : BitVec 32, exec (.setTransmitValue32 v) s = .refused .nestedCriticalSection)

/-- The frame of the producer (70_reset R146, 60_exceptions R134): no call but `initialize` touches the engine or
the peripheral, and `initialize` writes neither `STATE` nor the buffer nor `SR`. -/
def Obligations.ProducerLeavesTheEngineAlone : Prop :=
  ∀ (i : Instr) (s t : State), isProducerCall i = true → exec i s = .next t →
    ((∀ a, i ≠ .hostInit a) →
      t = { s with
        txbuf := t.txbuf, gie := t.gie, gieSaved := t.gieSaved, inCritical := t.inCritical,
        pendingWrites := t.pendingWrites, unpacked := t.unpacked }) ∧
    (∀ a, i = .hostInit a →
      t = { s with
        ownAddr := t.ownAddr, devAddr := t.devAddr, cfg := t.cfg, sttie := t.sttie, ie := t.ie,
        dataIdx := t.dataIdx, oe := t.oe, cnt := t.cnt, sttifg := t.sttifg, ifg := t.ifg, gie := t.gie,
        initDone := t.initDone })

/-- What a store leaves: a codec write or a publish changes only the bytes it stores to, the writes left of an
earlier pack and its own; the other calls store nothing. -/
def Obligations.ProducerStoresOnlyWhereItWrites : Prop :=
  (∀ (s t : State) (v : BitVec 16) (a : Nat),
    exec (.pack16 v) s = .next t ∨ exec (.setTransmitValue16 v) s = .next t →
    a ∉ (s.pendingWrites ++ packWrites (packBytes16 v)).map Prod.fst →
    Memory.read t.txbuf a = Memory.read s.txbuf a) ∧
  (∀ (s t : State) (v : BitVec 32) (a : Nat),
    exec (.pack32 v) s = .next t ∨ exec (.setTransmitValue32 v) s = .next t →
    a ∉ (s.pendingWrites ++ packWrites (packBytes32 v)).map Prod.fst →
    Memory.read t.txbuf a = Memory.read s.txbuf a) ∧
  (∀ (i : Instr) (s t : State) (a : Nat), isProducerCall i = true →
    (∀ v, i ≠ .pack16 v) → (∀ v, i ≠ .pack32 v) → (∀ v, i ≠ .setTransmitValue16 v) →
    (∀ v, i ≠ .setTransmitValue32 v) → exec i s = .next t →
    Memory.read t.txbuf a = Memory.read s.txbuf a)

/-- 20_memory R43: no call of the producer depends on the progress of the engine. Two states that agree on the
foreground's own state give the same refusal, the same fault, or next states that agree on it again. -/
def Obligations.ForegroundCannotObserveTheEngine : Prop :=
  ∀ (i : Instr) (s s' : State), isProducerCall i = true →
    s'.bufLen = s.bufLen → s'.txbuf = s.txbuf → s'.gie = s.gie → s'.gieSaved = s.gieSaved →
    s'.inCritical = s.inCritical → s'.initDone = s.initDone → s'.pendingWrites = s.pendingWrites →
    s'.unpacked = s.unpacked →
    (∀ t : State, exec i s = .next t → ∃ t' : State, exec i s' = .next t' ∧
      t'.bufLen = t.bufLen ∧ t'.txbuf = t.txbuf ∧ t'.gie = t.gie ∧ t'.gieSaved = t.gieSaved ∧
      t'.inCritical = t.inCritical ∧ t'.initDone = t.initDone ∧ t'.pendingWrites = t.pendingWrites ∧
      t'.unpacked = t.unpacked) ∧
    (∀ r, exec i s = .refused r → exec i s' = .refused r) ∧
    (∀ e, exec i s = .fault e → exec i s' = .fault e)

/-! ## The environment's events -/

/-- 44_environment R106: a start condition sets `STTIFG`, leaves its marker, and changes nothing else. -/
def Obligations.StartEventSetsTheStartFlag : Prop :=
  ∀ (s : State) (x : Bool), exec (.envStart x) s = .next { s with sttifg := true, wire := s.wire ++ [.start] }

/-- 44_environment R108: a stop condition leaves its marker and changes nothing else. -/
def Obligations.StopEventChangesNothing : Prop :=
  ∀ (s : State) (x : Bool), exec (.envStop x) s = .next { s with wire := s.wire ++ [.stop] }

/-- 44_environment R107: one clock pulse, while no flag is pending. -/
def Obligations.ClockShiftsOneBit : Prop :=
  ∀ (s : State) (m line : Bool), s.sttifg = false → s.ifg = false →
    line = ((if s.oe then s.sr.getLsbD 7 else true) && m) →
    (s.cnt ≠ 0#4 → exec (.envClock m) s = .next { s with
      sr := s.sr <<< 1 ||| (BitVec.ofBool line).setWidth 8, cnt := s.cnt - 1#4, ifg := decide (s.cnt = 1#4),
      wire := s.wire ++ [.clock line s.oe] }) ∧
    (s.cnt = 0#4 → exec (.envClock m) s = .next { s with wire := s.wire ++ [.clock line s.oe] })

/-- 44_environment R109: while a flag is pending the clock is held; the pulse waits at the head of the bus events
and nothing else changes (the waiting queue is the model's, log 2). -/
def Obligations.PendingFlagHoldsTheClock : Prop :=
  ∀ (s : State) (m : Bool), s.sttifg = true ∨ s.ifg = true →
    exec (.envClock m) s = .next { s with busEvents := (0b01#2 ++ BitVec.ofBool m) :: s.busEvents }

/-- 44_environment R112: the environment writes only `STTIFG` and `IFG` (to 1), `SR`, `CNT`, and appends to
`WIRE`; it never clears a flag. `busEvents` is the queue of its own events. -/
def Obligations.EnvironmentNeverClearsAFlag : Prop :=
  ∀ (i : Instr) (s t : State), isBusEvent i = true → exec i s = .next t →
    t = { s with
      sttifg := t.sttifg, ifg := t.ifg, sr := t.sr, cnt := t.cnt, wire := t.wire, busEvents := t.busEvents } ∧
    (s.sttifg = true → t.sttifg = true) ∧ (s.ifg = true → t.ifg = true) ∧
    ∃ w : List WireEntry, t.wire = s.wire ++ w

/-- 44_environment R111: a group of one or eight clocks, with the engine listening or the master listening. -/
def Obligations.ArmedGroupShiftsItsBits : Prop :=
  ∀ s : State, s.sttifg = false → s.ifg = false →
    (∀ b : Byte, s.cnt = 8#4 → s.oe = false →
      runScript (scriptByte b) s = .next { s with
        sr := b, cnt := 0#4, ifg := true, wire := s.wire ++ byteEntries false b }) ∧
    (∀ m : Bool, s.cnt = 1#4 → s.oe = false →
      runScript [.clk m] s = .next { s with
        sr := s.sr <<< 1 ||| (BitVec.ofBool m).setWidth 8, cnt := 0#4, ifg := true,
        wire := s.wire ++ [.clock m false] }) ∧
    (s.cnt = 8#4 → s.oe = true →
      runScript scriptRbyte s = .next { s with
        cnt := 0#4, ifg := true, wire := s.wire ++ byteEntries true s.sr }) ∧
    (s.cnt = 1#4 → s.oe = true →
      runScript scriptRbit s = .next { s with
        sr := s.sr <<< 1 ||| (BitVec.ofBool (s.sr.getLsbD 7)).setWidth 8, cnt := 0#4, ifg := true,
        wire := s.wire ++ [.clock (s.sr.getLsbD 7) true] })

/-- 70_reset R149: while the engine still drives the line, the byte it receives is the AND of the byte the master
sent and the old content of `SR`. -/
def Obligations.DrivenAddressPhaseReceivesTheAnd : Prop :=
  ∀ (s : State) (b : Byte), s.sttifg = false → s.ifg = false → s.cnt = 8#4 → s.oe = true →
    runScript (scriptByte b) s = .next { s with
      sr := b &&& s.sr, cnt := 0#4, ifg := true, wire := s.wire ++ byteEntries true (b &&& s.sr) }

/-! ## The whole machine -/

/-- The invariant holds at reset. It reads the reset values of `DEV_ADDR`, `DATA_IDX`, `OE`, `CNT` and `IFG` that
the model chose (logs 4, 7, 9). -/
def Obligations.ResetMeetsTheInvariant : Prop := Inv State.reset

/-- 10_state R26 to R29: every step of every agent keeps the invariant. -/
def Obligations.StepKeepsTheInvariant : Prop :=
  ∀ s t : State, Inv s → step s = .next t → Inv t

/-- 10_state R27: no buffer read is out of range, so no step of a machine in the invariant faults. No buffer write
is either; that one out of range would fault is the model's choice (log 20). -/
def Obligations.NoStepFaultsUnderTheInvariant : Prop :=
  ∀ (s : State) (e : Fault), Inv s → step s ≠ .fault e

/-- 40_dispatch R64, R65: under the invariant no step meets the reserved state or a code that names none. -/
def Obligations.ReservedStatesAreNeverDispatched : Prop :=
  ∀ s : State, Inv s → step s ≠ .refused .rxDataHasNoAction ∧ step s ≠ .refused .illegalStateCode

/-- A run of any length from a state in the invariant meets no fault (60_exceptions R120: there is no fatal error
path). -/
def Obligations.RunsUnderTheInvariantAreSafe : Prop :=
  ∀ (s : State) (k : Nat), Inv s → SafeRun k s

/-- 60_exceptions R121, R122, R124: what an invocation does that ends the transaction in progress, by its label;
and no other invocation takes the engine to `S_IDLE` but that of RX_CHECK, which closes a transaction already
refused. -/
def Obligations.TransactionEndsAsLabelled : Prop :=
  ∀ s : State, Inv s → s.handlerEnabled = true → ∃ t : State, invokeHandler s = .next t ∧
    (s.transactionEnd = some .addrMismatch → t.state = 6#4 ∧ t.sr = 0xFF#8 ∧ t.cnt = 1#4) ∧
    (s.transactionEnd = some .earlyNack → t.Ready) ∧
    (s.transactionEnd = some .complete → t.Ready) ∧
    (s.transactionEnd = some .preempted → t.state = 4#4 ∧ t.dataIdx = 0#3 ∧ t.cnt = 8#4 ∧ t.sttifg = false) ∧
    (s.transactionEnd = none → s.state ≠ 0#4 → t.state = 0#4 → s.state = 6#4)

/-- 10_state R14, 20_memory R42: `N` never changes, and after `initialize` neither do the address and the
configuration. -/
def Obligations.ConfigurationIsFixedAfterInitialize : Prop :=
  ∀ s t : State, step s = .next t →
    t.bufLen = s.bufLen ∧
    (s.initDone = true → t.initDone = true ∧ t.ownAddr = s.ownAddr ∧ t.cfg = s.cfg ∧ t.sttie = s.sttie ∧
      t.ie = s.ie)

/-- 70_reset R158: from every state, a start condition and the handler step it enables give a fresh transaction;
nothing of the one in progress is kept but the content of `SR` and the drive of the line. -/
def Obligations.StartPreemptsFromEveryState : Prop :=
  ∀ s : State, s.gie = true → s.sttie = true →
    runScript [.start, .irq] s = .next { s with
      state := 4#4, dataIdx := 0#3, devAddr := s.ownAddr ++ 0#1, cnt := 8#4, sttifg := false, ifg := false,
      wire := s.wire ++ [.start] }

/-- 41_address R73 with the address phase of 30_encoding R58: from the ready state, the own address with either
read/write bit is acknowledged and the first byte of the buffer is loaded. -/
def Obligations.OwnAddressIsAcknowledged : Prop :=
  ∀ (s : State) (r : Bool), s.Ready → s.gie = true → s.sttie = true → s.ie = true →
    runScript (scriptAddressPhase s.ownAddr r) s = .next { s with
      state := 12#4, devAddr := s.ownAddr ++ BitVec.ofBool r, dataIdx := 1#3, sr := s.bufByte 0, cnt := 8#4,
      oe := true, sttifg := false, ifg := false,
      wire := s.wire ++ [.start] ++ byteEntries false (s.ownAddr ++ BitVec.ofBool r) ++ [.clock false true] }

/-- 70_reset R157: a foreign address is answered with NACK, no data byte is sent, and after three handler
invocations the engine is ready again. How `wireBytes` reads the trace is log 19. -/
def Obligations.ForeignAddressIsRefusedAndForgotten : Prop :=
  ∀ (s : State) (b : Byte), s.Ready → s.gie = true → s.sttie = true → s.ie = true →
    b.extractLsb' 1 7 ≠ s.ownAddr →
    ∃ t : State, runScript ([.start, .irq] ++ scriptByte b ++ [.irq] ++ scriptRbit ++ [.irq]) s = .next t ∧
      t.wire = s.wire ++ [.start] ++ byteEntries false b ++ [.clock true true] ∧
      wireBytes t.wire = [] ∧ t.Ready ∧ t.Quiescent ∧ t.txbuf = s.txbuf

/-- 30_encoding R57: a script whose statements are enabled where they stand and none of which is refused or faults
(the model's reading of "well formed", log 21), queued on a machine with empty queues, is what as many steps run, one
statement each (the queues are the model's, logs 1 and 15). -/
def Obligations.QueuedScriptRunsAsWritten : Prop :=
  ∀ (s : State) (p : List Statement), s.turns = [] → s.hostCalls = [] → s.busEvents = [] →
    scriptWellFormed p s = true →
    ∃ t : State, runScript p s = .next t ∧ Host.Core.run Sys2Proof.core p.length (s.withScript p) = .next t

/-- 30_encoding R57, R58: the read script is well formed from the ready state; every statement of it is enabled
where it stands, and none is refused or faults (the model's reading of "well formed", log 21). -/
def Obligations.ReadScriptIsWellFormed : Prop :=
  ∀ (s : State) (n : Nat), s.Ready → s.gie = true → s.sttie = true → s.ie = true → 1 ≤ n → n ≤ s.bufLen.n →
    scriptWellFormed (scriptRead s.ownAddr n) s = true

/-- 42_transmit R85 first case, 20_memory R40, 70_reset R159: a master that acknowledges the bytes before the last
one it wants, and not that one, reads exactly the first `n` bytes of the buffer, index 0 first, and leaves the
engine ready with its cursor at 0. How `wireBytes` reads the trace is log 19. -/
def Obligations.ReadDeliversTheFirstBytesInOrder : Prop :=
  ∀ (s : State) (n : Nat), s.Ready → s.gie = true → s.sttie = true → s.ie = true →
    1 ≤ n → n ≤ s.bufLen.n →
    ∃ t : State, runScript (scriptRead s.ownAddr n) s = .next t ∧
      wireBytes t.wire = (List.range n).map s.bufByte ∧ t.Ready ∧ t.Quiescent ∧ t.txbuf = s.txbuf

/-- 70_reset R156: a published value is read back on the wire most significant byte first, both widths. How
`wireBytes` reads the trace is log 19. -/
def Obligations.PublishedValueIsReadBigEndian : Prop :=
  ∀ s : State, s.Ready → s.gie = true → s.sttie = true → s.ie = true → s.inCritical = false →
    s.pendingWrites = [] →
    (∀ v : BitVec 16, s.bufLen = .two →
      ∃ t : State, runScript (.set16 v :: scriptRead s.ownAddr 2) s = .next t ∧
        wireBytes t.wire = [v.extractLsb' 8 8, v.extractLsb' 0 8] ∧ t.Ready ∧ t.Quiescent) ∧
    (∀ v : BitVec 32, s.bufLen = .four →
      ∃ t : State, runScript (.set32 v :: scriptRead s.ownAddr 4) s = .next t ∧
        wireBytes t.wire = [v.extractLsb' 24 8, v.extractLsb' 16 8, v.extractLsb' 8 8, v.extractLsb' 0 8] ∧
        t.Ready ∧ t.Quiescent)

/-- 42_transmit R85 second case, R86: a master that acknowledges every byte gets each byte once; then the engine
is ready and quiescent, does not wrap around, and eight further clocks only read a released line. How `wireBytes`
reads the trace is log 19. -/
def Obligations.ExhaustedBufferEndsTheTransaction : Prop :=
  ∀ s : State, s.Ready → s.gie = true → s.sttie = true → s.ie = true →
    ∃ t : State, runScript (scriptAddressPhase s.ownAddr true ++ scriptAckedBytes s.bufLen.n) s = .next t ∧
      wireBytes t.wire = (List.range s.bufLen.n).map s.bufByte ∧ t.Ready ∧ t.Quiescent ∧
      runScript scriptRbyte t = .next { t with wire := t.wire ++ byteEntries false 0xFF#8 }

/-- 43_codec_host R100, 70_reset R144: a whole transaction between two byte writes of an unprotected pack reads the
new value in the bytes already written and the old value in the others, both widths. With four bytes the transaction
falls after byte write `j`, for each of the three places there are. The statement `more`, the next byte write, is
log 10; how `wireBytes` reads the trace is log 19. -/
def Obligations.UnprotectedPackIsReadTorn : Prop :=
  ∀ s : State, s.Ready → s.gie = true → s.sttie = true → s.ie = true → s.inCritical = false →
    s.pendingWrites = [] →
    (∀ v : BitVec 16, s.bufLen = .two →
      ∃ t : State, runScript (.pack16 v :: scriptRead s.ownAddr 2 ++ [.more]) s = .next t ∧
        wireBytes t.wire = [v.extractLsb' 8 8, s.bufByte 1] ∧
        t.bufByte 0 = v.extractLsb' 8 8 ∧ t.bufByte 1 = v.extractLsb' 0 8) ∧
    (∀ (v : BitVec 32) (j : Nat), s.bufLen = .four → j < 3 →
      ∃ t : State, runScript (.pack32 v :: List.replicate j .more ++ scriptRead s.ownAddr 4 ++
          List.replicate (3 - j) .more) s = .next t ∧
        wireBytes t.wire =
          [v.extractLsb' 24 8, v.extractLsb' 16 8, v.extractLsb' 8 8].take (j + 1) ++
            ([1, 2, 3].drop j).map s.bufByte ∧
        t.bufByte 0 = v.extractLsb' 24 8 ∧ t.bufByte 1 = v.extractLsb' 16 8 ∧
        t.bufByte 2 = v.extractLsb' 8 8 ∧ t.bufByte 3 = v.extractLsb' 0 8)
end

