-- ==== Sys2Proof/Laws/Bits.lean ====
section
/-! SUPPORT. Concatenation, the canonical address and the fold as numbers and as bits. -/

namespace Sys2Proof.Machine

/-- `{a, b}` as a number: `a` stands above `b`. -/
theorem append_toNat {n m : Nat} (a : BitVec n) (b : BitVec m) :
    (a ++ b).toNat = a.toNat * 2 ^ m + b.toNat := by
  rw [BitVec.toNat_append, ← Nat.shiftLeft_add_eq_or_of_lt b.isLt, Nat.shiftLeft_eq]

/-- Bit 0 of the canonical address is clear (10_state R28). -/
@[simp] theorem rwFlag_canonOf (a : BitVec 7) : rwFlag (canonOf a) = false := by
  revert a; decide

/-- The folded canonical address is `{a, 0b1}` (30_encoding R53): the increment never carries. -/
theorem canonOf_add_one (a : BitVec 7) : canonOf a + 1 = a ++ 1#1 := by
  revert a; decide

/-- Folding a byte into the canonical address sets its bit 0 to the byte's. -/
theorem fold_canonOf (a : BitVec 7) (b : Byte) : fold (canonOf a) b = a ++ BitVec.ofBool (rwFlag b) := by
  unfold fold
  split
  · rename_i h
    rw [canonOf_add_one, h]
    rfl
  · rename_i h
    rw [Bool.not_eq_true] at h
    rw [h]
    rfl

end Sys2Proof.Machine
end

