-- ==== Sys2Proof/Laws/State.lean ====
section
/-! SUPPORT. One lemma per field for each update of the state, so that no proof unfolds a record update. -/

namespace Sys2Proof.Machine

@[simp] theorem BufLen.n_two : BufLen.two.n = 2 := rfl
@[simp] theorem BufLen.n_four : BufLen.four.n = 4 := rfl

/-! ### setStartFlag -/

@[simp] theorem setStartFlag_state (s : State) : (setStartFlag s).state = s.state := rfl
@[simp] theorem setStartFlag_devAddr (s : State) : (setStartFlag s).devAddr = s.devAddr := rfl
@[simp] theorem setStartFlag_dataIdx (s : State) : (setStartFlag s).dataIdx = s.dataIdx := rfl
@[simp] theorem setStartFlag_ownAddr (s : State) : (setStartFlag s).ownAddr = s.ownAddr := rfl
@[simp] theorem setStartFlag_bufLen (s : State) : (setStartFlag s).bufLen = s.bufLen := rfl
@[simp] theorem setStartFlag_txbuf (s : State) : (setStartFlag s).txbuf = s.txbuf := rfl
@[simp] theorem setStartFlag_sr (s : State) : (setStartFlag s).sr = s.sr := rfl
@[simp] theorem setStartFlag_sttifg (s : State) : (setStartFlag s).sttifg = true := rfl
@[simp] theorem setStartFlag_ifg (s : State) : (setStartFlag s).ifg = s.ifg := rfl
@[simp] theorem setStartFlag_cnt (s : State) : (setStartFlag s).cnt = s.cnt := rfl
@[simp] theorem setStartFlag_oe (s : State) : (setStartFlag s).oe = s.oe := rfl
@[simp] theorem setStartFlag_cfg (s : State) : (setStartFlag s).cfg = s.cfg := rfl
@[simp] theorem setStartFlag_sttie (s : State) : (setStartFlag s).sttie = s.sttie := rfl
@[simp] theorem setStartFlag_ie (s : State) : (setStartFlag s).ie = s.ie := rfl
@[simp] theorem setStartFlag_gie (s : State) : (setStartFlag s).gie = s.gie := rfl
@[simp] theorem setStartFlag_gieSaved (s : State) : (setStartFlag s).gieSaved = s.gieSaved := rfl
@[simp] theorem setStartFlag_inCritical (s : State) : (setStartFlag s).inCritical = s.inCritical := rfl
@[simp] theorem setStartFlag_initDone (s : State) : (setStartFlag s).initDone = s.initDone := rfl
@[simp] theorem setStartFlag_wire (s : State) : (setStartFlag s).wire = s.wire := rfl
@[simp] theorem setStartFlag_pendingWrites (s : State) : (setStartFlag s).pendingWrites = s.pendingWrites := rfl
@[simp] theorem setStartFlag_unpacked (s : State) : (setStartFlag s).unpacked = s.unpacked := rfl
@[simp] theorem setStartFlag_hostCalls (s : State) : (setStartFlag s).hostCalls = s.hostCalls := rfl
@[simp] theorem setStartFlag_busEvents (s : State) : (setStartFlag s).busEvents = s.busEvents := rfl
@[simp] theorem setStartFlag_turns (s : State) : (setStartFlag s).turns = s.turns := rfl

/-! ### clearStartFlag -/

@[simp] theorem clearStartFlag_state (s : State) : (clearStartFlag s).state = s.state := rfl
@[simp] theorem clearStartFlag_devAddr (s : State) : (clearStartFlag s).devAddr = s.devAddr := rfl
@[simp] theorem clearStartFlag_dataIdx (s : State) : (clearStartFlag s).dataIdx = s.dataIdx := rfl
@[simp] theorem clearStartFlag_ownAddr (s : State) : (clearStartFlag s).ownAddr = s.ownAddr := rfl
@[simp] theorem clearStartFlag_bufLen (s : State) : (clearStartFlag s).bufLen = s.bufLen := rfl
@[simp] theorem clearStartFlag_txbuf (s : State) : (clearStartFlag s).txbuf = s.txbuf := rfl
@[simp] theorem clearStartFlag_sr (s : State) : (clearStartFlag s).sr = s.sr := rfl
@[simp] theorem clearStartFlag_sttifg (s : State) : (clearStartFlag s).sttifg = false := rfl
@[simp] theorem clearStartFlag_ifg (s : State) : (clearStartFlag s).ifg = s.ifg := rfl
@[simp] theorem clearStartFlag_cnt (s : State) : (clearStartFlag s).cnt = s.cnt := rfl
@[simp] theorem clearStartFlag_oe (s : State) : (clearStartFlag s).oe = s.oe := rfl
@[simp] theorem clearStartFlag_cfg (s : State) : (clearStartFlag s).cfg = s.cfg := rfl
@[simp] theorem clearStartFlag_sttie (s : State) : (clearStartFlag s).sttie = s.sttie := rfl
@[simp] theorem clearStartFlag_ie (s : State) : (clearStartFlag s).ie = s.ie := rfl
@[simp] theorem clearStartFlag_gie (s : State) : (clearStartFlag s).gie = s.gie := rfl
@[simp] theorem clearStartFlag_gieSaved (s : State) : (clearStartFlag s).gieSaved = s.gieSaved := rfl
@[simp] theorem clearStartFlag_inCritical (s : State) : (clearStartFlag s).inCritical = s.inCritical := rfl
@[simp] theorem clearStartFlag_initDone (s : State) : (clearStartFlag s).initDone = s.initDone := rfl
@[simp] theorem clearStartFlag_wire (s : State) : (clearStartFlag s).wire = s.wire := rfl
@[simp] theorem clearStartFlag_pendingWrites (s : State) : (clearStartFlag s).pendingWrites = s.pendingWrites := rfl
@[simp] theorem clearStartFlag_unpacked (s : State) : (clearStartFlag s).unpacked = s.unpacked := rfl
@[simp] theorem clearStartFlag_hostCalls (s : State) : (clearStartFlag s).hostCalls = s.hostCalls := rfl
@[simp] theorem clearStartFlag_busEvents (s : State) : (clearStartFlag s).busEvents = s.busEvents := rfl
@[simp] theorem clearStartFlag_turns (s : State) : (clearStartFlag s).turns = s.turns := rfl

/-! ### setCompletionFlag -/

@[simp] theorem setCompletionFlag_state (s : State) : (setCompletionFlag s).state = s.state := rfl
@[simp] theorem setCompletionFlag_devAddr (s : State) : (setCompletionFlag s).devAddr = s.devAddr := rfl
@[simp] theorem setCompletionFlag_dataIdx (s : State) : (setCompletionFlag s).dataIdx = s.dataIdx := rfl
@[simp] theorem setCompletionFlag_ownAddr (s : State) : (setCompletionFlag s).ownAddr = s.ownAddr := rfl
@[simp] theorem setCompletionFlag_bufLen (s : State) : (setCompletionFlag s).bufLen = s.bufLen := rfl
@[simp] theorem setCompletionFlag_txbuf (s : State) : (setCompletionFlag s).txbuf = s.txbuf := rfl
@[simp] theorem setCompletionFlag_sr (s : State) : (setCompletionFlag s).sr = s.sr := rfl
@[simp] theorem setCompletionFlag_sttifg (s : State) : (setCompletionFlag s).sttifg = s.sttifg := rfl
@[simp] theorem setCompletionFlag_ifg (s : State) : (setCompletionFlag s).ifg = true := rfl
@[simp] theorem setCompletionFlag_cnt (s : State) : (setCompletionFlag s).cnt = s.cnt := rfl
@[simp] theorem setCompletionFlag_oe (s : State) : (setCompletionFlag s).oe = s.oe := rfl
@[simp] theorem setCompletionFlag_cfg (s : State) : (setCompletionFlag s).cfg = s.cfg := rfl
@[simp] theorem setCompletionFlag_sttie (s : State) : (setCompletionFlag s).sttie = s.sttie := rfl
@[simp] theorem setCompletionFlag_ie (s : State) : (setCompletionFlag s).ie = s.ie := rfl
@[simp] theorem setCompletionFlag_gie (s : State) : (setCompletionFlag s).gie = s.gie := rfl
@[simp] theorem setCompletionFlag_gieSaved (s : State) : (setCompletionFlag s).gieSaved = s.gieSaved := rfl
@[simp] theorem setCompletionFlag_inCritical (s : State) : (setCompletionFlag s).inCritical = s.inCritical := rfl
@[simp] theorem setCompletionFlag_initDone (s : State) : (setCompletionFlag s).initDone = s.initDone := rfl
@[simp] theorem setCompletionFlag_wire (s : State) : (setCompletionFlag s).wire = s.wire := rfl
@[simp] theorem setCompletionFlag_pendingWrites (s : State) : (setCompletionFlag s).pendingWrites = s.pendingWrites := rfl
@[simp] theorem setCompletionFlag_unpacked (s : State) : (setCompletionFlag s).unpacked = s.unpacked := rfl
@[simp] theorem setCompletionFlag_hostCalls (s : State) : (setCompletionFlag s).hostCalls = s.hostCalls := rfl
@[simp] theorem setCompletionFlag_busEvents (s : State) : (setCompletionFlag s).busEvents = s.busEvents := rfl
@[simp] theorem setCompletionFlag_turns (s : State) : (setCompletionFlag s).turns = s.turns := rfl

/-! ### clearCompletionFlag -/

@[simp] theorem clearCompletionFlag_state (s : State) : (clearCompletionFlag s).state = s.state := rfl
@[simp] theorem clearCompletionFlag_devAddr (s : State) : (clearCompletionFlag s).devAddr = s.devAddr := rfl
@[simp] theorem clearCompletionFlag_dataIdx (s : State) : (clearCompletionFlag s).dataIdx = s.dataIdx := rfl
@[simp] theorem clearCompletionFlag_ownAddr (s : State) : (clearCompletionFlag s).ownAddr = s.ownAddr := rfl
@[simp] theorem clearCompletionFlag_bufLen (s : State) : (clearCompletionFlag s).bufLen = s.bufLen := rfl
@[simp] theorem clearCompletionFlag_txbuf (s : State) : (clearCompletionFlag s).txbuf = s.txbuf := rfl
@[simp] theorem clearCompletionFlag_sr (s : State) : (clearCompletionFlag s).sr = s.sr := rfl
@[simp] theorem clearCompletionFlag_sttifg (s : State) : (clearCompletionFlag s).sttifg = s.sttifg := rfl
@[simp] theorem clearCompletionFlag_ifg (s : State) : (clearCompletionFlag s).ifg = false := rfl
@[simp] theorem clearCompletionFlag_cnt (s : State) : (clearCompletionFlag s).cnt = s.cnt := rfl
@[simp] theorem clearCompletionFlag_oe (s : State) : (clearCompletionFlag s).oe = s.oe := rfl
@[simp] theorem clearCompletionFlag_cfg (s : State) : (clearCompletionFlag s).cfg = s.cfg := rfl
@[simp] theorem clearCompletionFlag_sttie (s : State) : (clearCompletionFlag s).sttie = s.sttie := rfl
@[simp] theorem clearCompletionFlag_ie (s : State) : (clearCompletionFlag s).ie = s.ie := rfl
@[simp] theorem clearCompletionFlag_gie (s : State) : (clearCompletionFlag s).gie = s.gie := rfl
@[simp] theorem clearCompletionFlag_gieSaved (s : State) : (clearCompletionFlag s).gieSaved = s.gieSaved := rfl
@[simp] theorem clearCompletionFlag_inCritical (s : State) : (clearCompletionFlag s).inCritical = s.inCritical := rfl
@[simp] theorem clearCompletionFlag_initDone (s : State) : (clearCompletionFlag s).initDone = s.initDone := rfl
@[simp] theorem clearCompletionFlag_wire (s : State) : (clearCompletionFlag s).wire = s.wire := rfl
@[simp] theorem clearCompletionFlag_pendingWrites (s : State) : (clearCompletionFlag s).pendingWrites = s.pendingWrites := rfl
@[simp] theorem clearCompletionFlag_unpacked (s : State) : (clearCompletionFlag s).unpacked = s.unpacked := rfl
@[simp] theorem clearCompletionFlag_hostCalls (s : State) : (clearCompletionFlag s).hostCalls = s.hostCalls := rfl
@[simp] theorem clearCompletionFlag_busEvents (s : State) : (clearCompletionFlag s).busEvents = s.busEvents := rfl
@[simp] theorem clearCompletionFlag_turns (s : State) : (clearCompletionFlag s).turns = s.turns := rfl

/-! ### leaveHandler -/

@[simp] theorem leaveHandler_state (s : State) : (leaveHandler s).state = s.state := rfl
@[simp] theorem leaveHandler_devAddr (s : State) : (leaveHandler s).devAddr = s.devAddr := rfl
@[simp] theorem leaveHandler_dataIdx (s : State) : (leaveHandler s).dataIdx = s.dataIdx := rfl
@[simp] theorem leaveHandler_ownAddr (s : State) : (leaveHandler s).ownAddr = s.ownAddr := rfl
@[simp] theorem leaveHandler_bufLen (s : State) : (leaveHandler s).bufLen = s.bufLen := rfl
@[simp] theorem leaveHandler_txbuf (s : State) : (leaveHandler s).txbuf = s.txbuf := rfl
@[simp] theorem leaveHandler_sr (s : State) : (leaveHandler s).sr = s.sr := rfl
@[simp] theorem leaveHandler_sttifg (s : State) : (leaveHandler s).sttifg = s.sttifg := rfl
@[simp] theorem leaveHandler_ifg (s : State) : (leaveHandler s).ifg = false := rfl
@[simp] theorem leaveHandler_cnt (s : State) : (leaveHandler s).cnt = s.cnt := rfl
@[simp] theorem leaveHandler_oe (s : State) : (leaveHandler s).oe = s.oe := rfl
@[simp] theorem leaveHandler_cfg (s : State) : (leaveHandler s).cfg = s.cfg := rfl
@[simp] theorem leaveHandler_sttie (s : State) : (leaveHandler s).sttie = s.sttie := rfl
@[simp] theorem leaveHandler_ie (s : State) : (leaveHandler s).ie = s.ie := rfl
@[simp] theorem leaveHandler_gie (s : State) : (leaveHandler s).gie = s.gie := rfl
@[simp] theorem leaveHandler_gieSaved (s : State) : (leaveHandler s).gieSaved = s.gieSaved := rfl
@[simp] theorem leaveHandler_inCritical (s : State) : (leaveHandler s).inCritical = s.inCritical := rfl
@[simp] theorem leaveHandler_initDone (s : State) : (leaveHandler s).initDone = s.initDone := rfl
@[simp] theorem leaveHandler_wire (s : State) : (leaveHandler s).wire = s.wire := rfl
@[simp] theorem leaveHandler_pendingWrites (s : State) : (leaveHandler s).pendingWrites = s.pendingWrites := rfl
@[simp] theorem leaveHandler_unpacked (s : State) : (leaveHandler s).unpacked = s.unpacked := rfl
@[simp] theorem leaveHandler_hostCalls (s : State) : (leaveHandler s).hostCalls = s.hostCalls := rfl
@[simp] theorem leaveHandler_busEvents (s : State) : (leaveHandler s).busEvents = s.busEvents := rfl
@[simp] theorem leaveHandler_turns (s : State) : (leaveHandler s).turns = s.turns := rfl

/-! ### arm -/

@[simp] theorem arm_state (n : ArmCount) (s : State) : (arm n s).state = s.state := rfl
@[simp] theorem arm_devAddr (n : ArmCount) (s : State) : (arm n s).devAddr = s.devAddr := rfl
@[simp] theorem arm_dataIdx (n : ArmCount) (s : State) : (arm n s).dataIdx = s.dataIdx := rfl
@[simp] theorem arm_ownAddr (n : ArmCount) (s : State) : (arm n s).ownAddr = s.ownAddr := rfl
@[simp] theorem arm_bufLen (n : ArmCount) (s : State) : (arm n s).bufLen = s.bufLen := rfl
@[simp] theorem arm_txbuf (n : ArmCount) (s : State) : (arm n s).txbuf = s.txbuf := rfl
@[simp] theorem arm_sr (n : ArmCount) (s : State) : (arm n s).sr = s.sr := rfl
@[simp] theorem arm_sttifg (n : ArmCount) (s : State) : (arm n s).sttifg = s.sttifg := rfl
@[simp] theorem arm_ifg (n : ArmCount) (s : State) : (arm n s).ifg = s.ifg := rfl
@[simp] theorem arm_cnt (n : ArmCount) (s : State) : (arm n s).cnt = n.bits := rfl
@[simp] theorem arm_oe (n : ArmCount) (s : State) : (arm n s).oe = s.oe := rfl
@[simp] theorem arm_cfg (n : ArmCount) (s : State) : (arm n s).cfg = s.cfg := rfl
@[simp] theorem arm_sttie (n : ArmCount) (s : State) : (arm n s).sttie = s.sttie := rfl
@[simp] theorem arm_ie (n : ArmCount) (s : State) : (arm n s).ie = s.ie := rfl
@[simp] theorem arm_gie (n : ArmCount) (s : State) : (arm n s).gie = s.gie := rfl
@[simp] theorem arm_gieSaved (n : ArmCount) (s : State) : (arm n s).gieSaved = s.gieSaved := rfl
@[simp] theorem arm_inCritical (n : ArmCount) (s : State) : (arm n s).inCritical = s.inCritical := rfl
@[simp] theorem arm_initDone (n : ArmCount) (s : State) : (arm n s).initDone = s.initDone := rfl
@[simp] theorem arm_wire (n : ArmCount) (s : State) : (arm n s).wire = s.wire := rfl
@[simp] theorem arm_pendingWrites (n : ArmCount) (s : State) : (arm n s).pendingWrites = s.pendingWrites := rfl
@[simp] theorem arm_unpacked (n : ArmCount) (s : State) : (arm n s).unpacked = s.unpacked := rfl
@[simp] theorem arm_hostCalls (n : ArmCount) (s : State) : (arm n s).hostCalls = s.hostCalls := rfl
@[simp] theorem arm_busEvents (n : ArmCount) (s : State) : (arm n s).busEvents = s.busEvents := rfl
@[simp] theorem arm_turns (n : ArmCount) (s : State) : (arm n s).turns = s.turns := rfl

/-! ### prepStart -/

@[simp] theorem prepStart_state (s : State) : (prepStart s).state = s.state := rfl
@[simp] theorem prepStart_devAddr (s : State) : (prepStart s).devAddr = s.canon := rfl
@[simp] theorem prepStart_dataIdx (s : State) : (prepStart s).dataIdx = s.dataIdx := rfl
@[simp] theorem prepStart_ownAddr (s : State) : (prepStart s).ownAddr = s.ownAddr := rfl
@[simp] theorem prepStart_bufLen (s : State) : (prepStart s).bufLen = s.bufLen := rfl
@[simp] theorem prepStart_txbuf (s : State) : (prepStart s).txbuf = s.txbuf := rfl
@[simp] theorem prepStart_sr (s : State) : (prepStart s).sr = s.sr := rfl
@[simp] theorem prepStart_sttifg (s : State) : (prepStart s).sttifg = s.sttifg := rfl
@[simp] theorem prepStart_ifg (s : State) : (prepStart s).ifg = s.ifg := rfl
@[simp] theorem prepStart_cnt (s : State) : (prepStart s).cnt = s.cnt := rfl
@[simp] theorem prepStart_oe (s : State) : (prepStart s).oe = false := rfl
@[simp] theorem prepStart_cfg (s : State) : (prepStart s).cfg = s.cfg := rfl
@[simp] theorem prepStart_sttie (s : State) : (prepStart s).sttie = s.sttie := rfl
@[simp] theorem prepStart_ie (s : State) : (prepStart s).ie = s.ie := rfl
@[simp] theorem prepStart_gie (s : State) : (prepStart s).gie = s.gie := rfl
@[simp] theorem prepStart_gieSaved (s : State) : (prepStart s).gieSaved = s.gieSaved := rfl
@[simp] theorem prepStart_inCritical (s : State) : (prepStart s).inCritical = s.inCritical := rfl
@[simp] theorem prepStart_initDone (s : State) : (prepStart s).initDone = s.initDone := rfl
@[simp] theorem prepStart_wire (s : State) : (prepStart s).wire = s.wire := rfl
@[simp] theorem prepStart_pendingWrites (s : State) : (prepStart s).pendingWrites = s.pendingWrites := rfl
@[simp] theorem prepStart_unpacked (s : State) : (prepStart s).unpacked = s.unpacked := rfl
@[simp] theorem prepStart_hostCalls (s : State) : (prepStart s).hostCalls = s.hostCalls := rfl
@[simp] theorem prepStart_busEvents (s : State) : (prepStart s).busEvents = s.busEvents := rfl
@[simp] theorem prepStart_turns (s : State) : (prepStart s).turns = s.turns := rfl

/-! ### endTransaction -/

@[simp] theorem endTransaction_state (s : State) : (endTransaction s).state = StateCode.idle := rfl
@[simp] theorem endTransaction_devAddr (s : State) : (endTransaction s).devAddr = s.canon := rfl
@[simp] theorem endTransaction_dataIdx (s : State) : (endTransaction s).dataIdx = 0#3 := rfl
@[simp] theorem endTransaction_ownAddr (s : State) : (endTransaction s).ownAddr = s.ownAddr := rfl
@[simp] theorem endTransaction_bufLen (s : State) : (endTransaction s).bufLen = s.bufLen := rfl
@[simp] theorem endTransaction_txbuf (s : State) : (endTransaction s).txbuf = s.txbuf := rfl
@[simp] theorem endTransaction_sr (s : State) : (endTransaction s).sr = s.sr := rfl
@[simp] theorem endTransaction_sttifg (s : State) : (endTransaction s).sttifg = s.sttifg := rfl
@[simp] theorem endTransaction_ifg (s : State) : (endTransaction s).ifg = s.ifg := rfl
@[simp] theorem endTransaction_cnt (s : State) : (endTransaction s).cnt = s.cnt := rfl
@[simp] theorem endTransaction_oe (s : State) : (endTransaction s).oe = false := rfl
@[simp] theorem endTransaction_cfg (s : State) : (endTransaction s).cfg = s.cfg := rfl
@[simp] theorem endTransaction_sttie (s : State) : (endTransaction s).sttie = s.sttie := rfl
@[simp] theorem endTransaction_ie (s : State) : (endTransaction s).ie = s.ie := rfl
@[simp] theorem endTransaction_gie (s : State) : (endTransaction s).gie = s.gie := rfl
@[simp] theorem endTransaction_gieSaved (s : State) : (endTransaction s).gieSaved = s.gieSaved := rfl
@[simp] theorem endTransaction_inCritical (s : State) : (endTransaction s).inCritical = s.inCritical := rfl
@[simp] theorem endTransaction_initDone (s : State) : (endTransaction s).initDone = s.initDone := rfl
@[simp] theorem endTransaction_wire (s : State) : (endTransaction s).wire = s.wire := rfl
@[simp] theorem endTransaction_pendingWrites (s : State) : (endTransaction s).pendingWrites = s.pendingWrites := rfl
@[simp] theorem endTransaction_unpacked (s : State) : (endTransaction s).unpacked = s.unpacked := rfl
@[simp] theorem endTransaction_hostCalls (s : State) : (endTransaction s).hostCalls = s.hostCalls := rfl
@[simp] theorem endTransaction_busEvents (s : State) : (endTransaction s).busEvents = s.busEvents := rfl
@[simp] theorem endTransaction_turns (s : State) : (endTransaction s).turns = s.turns := rfl

/-! ### loadByte -/

@[simp] theorem loadByte_state (b : Byte) (s : State) : (loadByte b s).state = StateCode.ackNack := rfl
@[simp] theorem loadByte_devAddr (b : Byte) (s : State) : (loadByte b s).devAddr = s.devAddr := rfl
@[simp] theorem loadByte_dataIdx (b : Byte) (s : State) : (loadByte b s).dataIdx = s.dataIdx + 1 := rfl
@[simp] theorem loadByte_ownAddr (b : Byte) (s : State) : (loadByte b s).ownAddr = s.ownAddr := rfl
@[simp] theorem loadByte_bufLen (b : Byte) (s : State) : (loadByte b s).bufLen = s.bufLen := rfl
@[simp] theorem loadByte_txbuf (b : Byte) (s : State) : (loadByte b s).txbuf = s.txbuf := rfl
@[simp] theorem loadByte_sr (b : Byte) (s : State) : (loadByte b s).sr = b := rfl
@[simp] theorem loadByte_sttifg (b : Byte) (s : State) : (loadByte b s).sttifg = s.sttifg := rfl
@[simp] theorem loadByte_ifg (b : Byte) (s : State) : (loadByte b s).ifg = s.ifg := rfl
@[simp] theorem loadByte_cnt (b : Byte) (s : State) : (loadByte b s).cnt = 8#4 := rfl
@[simp] theorem loadByte_oe (b : Byte) (s : State) : (loadByte b s).oe = true := rfl
@[simp] theorem loadByte_cfg (b : Byte) (s : State) : (loadByte b s).cfg = s.cfg := rfl
@[simp] theorem loadByte_sttie (b : Byte) (s : State) : (loadByte b s).sttie = s.sttie := rfl
@[simp] theorem loadByte_ie (b : Byte) (s : State) : (loadByte b s).ie = s.ie := rfl
@[simp] theorem loadByte_gie (b : Byte) (s : State) : (loadByte b s).gie = s.gie := rfl
@[simp] theorem loadByte_gieSaved (b : Byte) (s : State) : (loadByte b s).gieSaved = s.gieSaved := rfl
@[simp] theorem loadByte_inCritical (b : Byte) (s : State) : (loadByte b s).inCritical = s.inCritical := rfl
@[simp] theorem loadByte_initDone (b : Byte) (s : State) : (loadByte b s).initDone = s.initDone := rfl
@[simp] theorem loadByte_wire (b : Byte) (s : State) : (loadByte b s).wire = s.wire := rfl
@[simp] theorem loadByte_pendingWrites (b : Byte) (s : State) : (loadByte b s).pendingWrites = s.pendingWrites := rfl
@[simp] theorem loadByte_unpacked (b : Byte) (s : State) : (loadByte b s).unpacked = s.unpacked := rfl
@[simp] theorem loadByte_hostCalls (b : Byte) (s : State) : (loadByte b s).hostCalls = s.hostCalls := rfl
@[simp] theorem loadByte_busEvents (b : Byte) (s : State) : (loadByte b s).busEvents = s.busEvents := rfl
@[simp] theorem loadByte_turns (b : Byte) (s : State) : (loadByte b s).turns = s.turns := rfl

/-! ### addressAction -/

@[simp] theorem addressAction_state (s : State) : (addressAction s).state = StateCode.processAddress := rfl
@[simp] theorem addressAction_devAddr (s : State) : (addressAction s).devAddr = s.canon := rfl
@[simp] theorem addressAction_dataIdx (s : State) : (addressAction s).dataIdx = 0#3 := rfl
@[simp] theorem addressAction_ownAddr (s : State) : (addressAction s).ownAddr = s.ownAddr := rfl
@[simp] theorem addressAction_bufLen (s : State) : (addressAction s).bufLen = s.bufLen := rfl
@[simp] theorem addressAction_txbuf (s : State) : (addressAction s).txbuf = s.txbuf := rfl
@[simp] theorem addressAction_sr (s : State) : (addressAction s).sr = s.sr := rfl
@[simp] theorem addressAction_sttifg (s : State) : (addressAction s).sttifg = false := rfl
@[simp] theorem addressAction_ifg (s : State) : (addressAction s).ifg = s.ifg := rfl
@[simp] theorem addressAction_cnt (s : State) : (addressAction s).cnt = 8#4 := rfl
@[simp] theorem addressAction_oe (s : State) : (addressAction s).oe = s.oe := rfl
@[simp] theorem addressAction_cfg (s : State) : (addressAction s).cfg = s.cfg := rfl
@[simp] theorem addressAction_sttie (s : State) : (addressAction s).sttie = s.sttie := rfl
@[simp] theorem addressAction_ie (s : State) : (addressAction s).ie = s.ie := rfl
@[simp] theorem addressAction_gie (s : State) : (addressAction s).gie = s.gie := rfl
@[simp] theorem addressAction_gieSaved (s : State) : (addressAction s).gieSaved = s.gieSaved := rfl
@[simp] theorem addressAction_inCritical (s : State) : (addressAction s).inCritical = s.inCritical := rfl
@[simp] theorem addressAction_initDone (s : State) : (addressAction s).initDone = s.initDone := rfl
@[simp] theorem addressAction_wire (s : State) : (addressAction s).wire = s.wire := rfl
@[simp] theorem addressAction_pendingWrites (s : State) : (addressAction s).pendingWrites = s.pendingWrites := rfl
@[simp] theorem addressAction_unpacked (s : State) : (addressAction s).unpacked = s.unpacked := rfl
@[simp] theorem addressAction_hostCalls (s : State) : (addressAction s).hostCalls = s.hostCalls := rfl
@[simp] theorem addressAction_busEvents (s : State) : (addressAction s).busEvents = s.busEvents := rfl
@[simp] theorem addressAction_turns (s : State) : (addressAction s).turns = s.turns := rfl

/-! ### enterCritical -/

@[simp] theorem enterCritical_state (s : State) : (enterCritical s).state = s.state := rfl
@[simp] theorem enterCritical_devAddr (s : State) : (enterCritical s).devAddr = s.devAddr := rfl
@[simp] theorem enterCritical_dataIdx (s : State) : (enterCritical s).dataIdx = s.dataIdx := rfl
@[simp] theorem enterCritical_ownAddr (s : State) : (enterCritical s).ownAddr = s.ownAddr := rfl
@[simp] theorem enterCritical_bufLen (s : State) : (enterCritical s).bufLen = s.bufLen := rfl
@[simp] theorem enterCritical_txbuf (s : State) : (enterCritical s).txbuf = s.txbuf := rfl
@[simp] theorem enterCritical_sr (s : State) : (enterCritical s).sr = s.sr := rfl
@[simp] theorem enterCritical_sttifg (s : State) : (enterCritical s).sttifg = s.sttifg := rfl
@[simp] theorem enterCritical_ifg (s : State) : (enterCritical s).ifg = s.ifg := rfl
@[simp] theorem enterCritical_cnt (s : State) : (enterCritical s).cnt = s.cnt := rfl
@[simp] theorem enterCritical_oe (s : State) : (enterCritical s).oe = s.oe := rfl
@[simp] theorem enterCritical_cfg (s : State) : (enterCritical s).cfg = s.cfg := rfl
@[simp] theorem enterCritical_sttie (s : State) : (enterCritical s).sttie = s.sttie := rfl
@[simp] theorem enterCritical_ie (s : State) : (enterCritical s).ie = s.ie := rfl
@[simp] theorem enterCritical_gie (s : State) : (enterCritical s).gie = false := rfl
@[simp] theorem enterCritical_gieSaved (s : State) : (enterCritical s).gieSaved = s.gie := rfl
@[simp] theorem enterCritical_inCritical (s : State) : (enterCritical s).inCritical = true := rfl
@[simp] theorem enterCritical_initDone (s : State) : (enterCritical s).initDone = s.initDone := rfl
@[simp] theorem enterCritical_wire (s : State) : (enterCritical s).wire = s.wire := rfl
@[simp] theorem enterCritical_pendingWrites (s : State) : (enterCritical s).pendingWrites = s.pendingWrites := rfl
@[simp] theorem enterCritical_unpacked (s : State) : (enterCritical s).unpacked = s.unpacked := rfl
@[simp] theorem enterCritical_hostCalls (s : State) : (enterCritical s).hostCalls = s.hostCalls := rfl
@[simp] theorem enterCritical_busEvents (s : State) : (enterCritical s).busEvents = s.busEvents := rfl
@[simp] theorem enterCritical_turns (s : State) : (enterCritical s).turns = s.turns := rfl

/-! ### leaveCritical -/

@[simp] theorem leaveCritical_state (s : State) : (leaveCritical s).state = s.state := rfl
@[simp] theorem leaveCritical_devAddr (s : State) : (leaveCritical s).devAddr = s.devAddr := rfl
@[simp] theorem leaveCritical_dataIdx (s : State) : (leaveCritical s).dataIdx = s.dataIdx := rfl
@[simp] theorem leaveCritical_ownAddr (s : State) : (leaveCritical s).ownAddr = s.ownAddr := rfl
@[simp] theorem leaveCritical_bufLen (s : State) : (leaveCritical s).bufLen = s.bufLen := rfl
@[simp] theorem leaveCritical_txbuf (s : State) : (leaveCritical s).txbuf = s.txbuf := rfl
@[simp] theorem leaveCritical_sr (s : State) : (leaveCritical s).sr = s.sr := rfl
@[simp] theorem leaveCritical_sttifg (s : State) : (leaveCritical s).sttifg = s.sttifg := rfl
@[simp] theorem leaveCritical_ifg (s : State) : (leaveCritical s).ifg = s.ifg := rfl
@[simp] theorem leaveCritical_cnt (s : State) : (leaveCritical s).cnt = s.cnt := rfl
@[simp] theorem leaveCritical_oe (s : State) : (leaveCritical s).oe = s.oe := rfl
@[simp] theorem leaveCritical_cfg (s : State) : (leaveCritical s).cfg = s.cfg := rfl
@[simp] theorem leaveCritical_sttie (s : State) : (leaveCritical s).sttie = s.sttie := rfl
@[simp] theorem leaveCritical_ie (s : State) : (leaveCritical s).ie = s.ie := rfl
@[simp] theorem leaveCritical_gie (s : State) : (leaveCritical s).gie = s.gieSaved := rfl
@[simp] theorem leaveCritical_gieSaved (s : State) : (leaveCritical s).gieSaved = s.gieSaved := rfl
@[simp] theorem leaveCritical_inCritical (s : State) : (leaveCritical s).inCritical = false := rfl
@[simp] theorem leaveCritical_initDone (s : State) : (leaveCritical s).initDone = s.initDone := rfl
@[simp] theorem leaveCritical_wire (s : State) : (leaveCritical s).wire = s.wire := rfl
@[simp] theorem leaveCritical_pendingWrites (s : State) : (leaveCritical s).pendingWrites = s.pendingWrites := rfl
@[simp] theorem leaveCritical_unpacked (s : State) : (leaveCritical s).unpacked = s.unpacked := rfl
@[simp] theorem leaveCritical_hostCalls (s : State) : (leaveCritical s).hostCalls = s.hostCalls := rfl
@[simp] theorem leaveCritical_busEvents (s : State) : (leaveCritical s).busEvents = s.busEvents := rfl
@[simp] theorem leaveCritical_turns (s : State) : (leaveCritical s).turns = s.turns := rfl

/-! ### traceWire -/

@[simp] theorem traceWire_state (e : WireEntry) (s : State) : (traceWire e s).state = s.state := rfl
@[simp] theorem traceWire_devAddr (e : WireEntry) (s : State) : (traceWire e s).devAddr = s.devAddr := rfl
@[simp] theorem traceWire_dataIdx (e : WireEntry) (s : State) : (traceWire e s).dataIdx = s.dataIdx := rfl
@[simp] theorem traceWire_ownAddr (e : WireEntry) (s : State) : (traceWire e s).ownAddr = s.ownAddr := rfl
@[simp] theorem traceWire_bufLen (e : WireEntry) (s : State) : (traceWire e s).bufLen = s.bufLen := rfl
@[simp] theorem traceWire_txbuf (e : WireEntry) (s : State) : (traceWire e s).txbuf = s.txbuf := rfl
@[simp] theorem traceWire_sr (e : WireEntry) (s : State) : (traceWire e s).sr = s.sr := rfl
@[simp] theorem traceWire_sttifg (e : WireEntry) (s : State) : (traceWire e s).sttifg = s.sttifg := rfl
@[simp] theorem traceWire_ifg (e : WireEntry) (s : State) : (traceWire e s).ifg = s.ifg := rfl
@[simp] theorem traceWire_cnt (e : WireEntry) (s : State) : (traceWire e s).cnt = s.cnt := rfl
@[simp] theorem traceWire_oe (e : WireEntry) (s : State) : (traceWire e s).oe = s.oe := rfl
@[simp] theorem traceWire_cfg (e : WireEntry) (s : State) : (traceWire e s).cfg = s.cfg := rfl
@[simp] theorem traceWire_sttie (e : WireEntry) (s : State) : (traceWire e s).sttie = s.sttie := rfl
@[simp] theorem traceWire_ie (e : WireEntry) (s : State) : (traceWire e s).ie = s.ie := rfl
@[simp] theorem traceWire_gie (e : WireEntry) (s : State) : (traceWire e s).gie = s.gie := rfl
@[simp] theorem traceWire_gieSaved (e : WireEntry) (s : State) : (traceWire e s).gieSaved = s.gieSaved := rfl
@[simp] theorem traceWire_inCritical (e : WireEntry) (s : State) : (traceWire e s).inCritical = s.inCritical := rfl
@[simp] theorem traceWire_initDone (e : WireEntry) (s : State) : (traceWire e s).initDone = s.initDone := rfl
@[simp] theorem traceWire_wire (e : WireEntry) (s : State) : (traceWire e s).wire = s.wire ++ [e] := rfl
@[simp] theorem traceWire_pendingWrites (e : WireEntry) (s : State) : (traceWire e s).pendingWrites = s.pendingWrites := rfl
@[simp] theorem traceWire_unpacked (e : WireEntry) (s : State) : (traceWire e s).unpacked = s.unpacked := rfl
@[simp] theorem traceWire_hostCalls (e : WireEntry) (s : State) : (traceWire e s).hostCalls = s.hostCalls := rfl
@[simp] theorem traceWire_busEvents (e : WireEntry) (s : State) : (traceWire e s).busEvents = s.busEvents := rfl
@[simp] theorem traceWire_turns (e : WireEntry) (s : State) : (traceWire e s).turns = s.turns := rfl

/-! ### holdEvent -/

@[simp] theorem holdEvent_state (e : EnvWord) (s : State) : (holdEvent e s).state = s.state := rfl
@[simp] theorem holdEvent_devAddr (e : EnvWord) (s : State) : (holdEvent e s).devAddr = s.devAddr := rfl
@[simp] theorem holdEvent_dataIdx (e : EnvWord) (s : State) : (holdEvent e s).dataIdx = s.dataIdx := rfl
@[simp] theorem holdEvent_ownAddr (e : EnvWord) (s : State) : (holdEvent e s).ownAddr = s.ownAddr := rfl
@[simp] theorem holdEvent_bufLen (e : EnvWord) (s : State) : (holdEvent e s).bufLen = s.bufLen := rfl
@[simp] theorem holdEvent_txbuf (e : EnvWord) (s : State) : (holdEvent e s).txbuf = s.txbuf := rfl
@[simp] theorem holdEvent_sr (e : EnvWord) (s : State) : (holdEvent e s).sr = s.sr := rfl
@[simp] theorem holdEvent_sttifg (e : EnvWord) (s : State) : (holdEvent e s).sttifg = s.sttifg := rfl
@[simp] theorem holdEvent_ifg (e : EnvWord) (s : State) : (holdEvent e s).ifg = s.ifg := rfl
@[simp] theorem holdEvent_cnt (e : EnvWord) (s : State) : (holdEvent e s).cnt = s.cnt := rfl
@[simp] theorem holdEvent_oe (e : EnvWord) (s : State) : (holdEvent e s).oe = s.oe := rfl
@[simp] theorem holdEvent_cfg (e : EnvWord) (s : State) : (holdEvent e s).cfg = s.cfg := rfl
@[simp] theorem holdEvent_sttie (e : EnvWord) (s : State) : (holdEvent e s).sttie = s.sttie := rfl
@[simp] theorem holdEvent_ie (e : EnvWord) (s : State) : (holdEvent e s).ie = s.ie := rfl
@[simp] theorem holdEvent_gie (e : EnvWord) (s : State) : (holdEvent e s).gie = s.gie := rfl
@[simp] theorem holdEvent_gieSaved (e : EnvWord) (s : State) : (holdEvent e s).gieSaved = s.gieSaved := rfl
@[simp] theorem holdEvent_inCritical (e : EnvWord) (s : State) : (holdEvent e s).inCritical = s.inCritical := rfl
@[simp] theorem holdEvent_initDone (e : EnvWord) (s : State) : (holdEvent e s).initDone = s.initDone := rfl
@[simp] theorem holdEvent_wire (e : EnvWord) (s : State) : (holdEvent e s).wire = s.wire := rfl
@[simp] theorem holdEvent_pendingWrites (e : EnvWord) (s : State) : (holdEvent e s).pendingWrites = s.pendingWrites := rfl
@[simp] theorem holdEvent_unpacked (e : EnvWord) (s : State) : (holdEvent e s).unpacked = s.unpacked := rfl
@[simp] theorem holdEvent_hostCalls (e : EnvWord) (s : State) : (holdEvent e s).hostCalls = s.hostCalls := rfl
@[simp] theorem holdEvent_busEvents (e : EnvWord) (s : State) : (holdEvent e s).busEvents = e :: s.busEvents := rfl
@[simp] theorem holdEvent_turns (e : EnvWord) (s : State) : (holdEvent e s).turns = s.turns := rfl

/-! ### The operations with a choice in them -/

@[simp] theorem shiftBit_state (l : Bool) (s : State) : (shiftBit l s).state = s.state := by
  unfold shiftBit; dsimp only; split <;> rfl
@[simp] theorem shiftBit_devAddr (l : Bool) (s : State) : (shiftBit l s).devAddr = s.devAddr := by
  unfold shiftBit; dsimp only; split <;> rfl
@[simp] theorem shiftBit_dataIdx (l : Bool) (s : State) : (shiftBit l s).dataIdx = s.dataIdx := by
  unfold shiftBit; dsimp only; split <;> rfl
@[simp] theorem shiftBit_ownAddr (l : Bool) (s : State) : (shiftBit l s).ownAddr = s.ownAddr := by
  unfold shiftBit; dsimp only; split <;> rfl
@[simp] theorem shiftBit_bufLen (l : Bool) (s : State) : (shiftBit l s).bufLen = s.bufLen := by
  unfold shiftBit; dsimp only; split <;> rfl
@[simp] theorem shiftBit_txbuf (l : Bool) (s : State) : (shiftBit l s).txbuf = s.txbuf := by
  unfold shiftBit; dsimp only; split <;> rfl
@[simp] theorem shiftBit_sttifg (l : Bool) (s : State) : (shiftBit l s).sttifg = s.sttifg := by
  unfold shiftBit; dsimp only; split <;> rfl
@[simp] theorem shiftBit_oe (l : Bool) (s : State) : (shiftBit l s).oe = s.oe := by
  unfold shiftBit; dsimp only; split <;> rfl
@[simp] theorem shiftBit_cfg (l : Bool) (s : State) : (shiftBit l s).cfg = s.cfg := by
  unfold shiftBit; dsimp only; split <;> rfl
@[simp] theorem shiftBit_sttie (l : Bool) (s : State) : (shiftBit l s).sttie = s.sttie := by
  unfold shiftBit; dsimp only; split <;> rfl
@[simp] theorem shiftBit_ie (l : Bool) (s : State) : (shiftBit l s).ie = s.ie := by
  unfold shiftBit; dsimp only; split <;> rfl
@[simp] theorem shiftBit_gie (l : Bool) (s : State) : (shiftBit l s).gie = s.gie := by
  unfold shiftBit; dsimp only; split <;> rfl
@[simp] theorem shiftBit_gieSaved (l : Bool) (s : State) : (shiftBit l s).gieSaved = s.gieSaved := by
  unfold shiftBit; dsimp only; split <;> rfl
@[simp] theorem shiftBit_inCritical (l : Bool) (s : State) : (shiftBit l s).inCritical = s.inCritical := by
  unfold shiftBit; dsimp only; split <;> rfl
@[simp] theorem shiftBit_initDone (l : Bool) (s : State) : (shiftBit l s).initDone = s.initDone := by
  unfold shiftBit; dsimp only; split <;> rfl
@[simp] theorem shiftBit_wire (l : Bool) (s : State) : (shiftBit l s).wire = s.wire := by
  unfold shiftBit; dsimp only; split <;> rfl
@[simp] theorem shiftBit_pendingWrites (l : Bool) (s : State) : (shiftBit l s).pendingWrites = s.pendingWrites := by
  unfold shiftBit; dsimp only; split <;> rfl
@[simp] theorem shiftBit_unpacked (l : Bool) (s : State) : (shiftBit l s).unpacked = s.unpacked := by
  unfold shiftBit; dsimp only; split <;> rfl
@[simp] theorem shiftBit_hostCalls (l : Bool) (s : State) : (shiftBit l s).hostCalls = s.hostCalls := by
  unfold shiftBit; dsimp only; split <;> rfl
@[simp] theorem shiftBit_busEvents (l : Bool) (s : State) : (shiftBit l s).busEvents = s.busEvents := by
  unfold shiftBit; dsimp only; split <;> rfl
@[simp] theorem shiftBit_turns (l : Bool) (s : State) : (shiftBit l s).turns = s.turns := by
  unfold shiftBit; dsimp only; split <;> rfl
@[simp] theorem shiftBit_sr (l : Bool) (s : State) : (shiftBit l s).sr = shiftIn s.sr l := by
  unfold shiftBit; dsimp only; split <;> rfl
@[simp] theorem shiftBit_cnt (l : Bool) (s : State) : (shiftBit l s).cnt = s.cnt - 1 := by
  unfold shiftBit; dsimp only; split <;> rfl
@[simp] theorem shiftBit_ifg (l : Bool) (s : State) :
    (shiftBit l s).ifg = (decide (s.cnt - 1 = 0#4) || s.ifg) := by
  unfold shiftBit; dsimp only; split <;> simp_all

@[simp] theorem startOverride_devAddr (s : State) : (startOverride s).devAddr = s.devAddr := by
  unfold startOverride; split <;> rfl
@[simp] theorem startOverride_dataIdx (s : State) : (startOverride s).dataIdx = s.dataIdx := by
  unfold startOverride; split <;> rfl
@[simp] theorem startOverride_ownAddr (s : State) : (startOverride s).ownAddr = s.ownAddr := by
  unfold startOverride; split <;> rfl
@[simp] theorem startOverride_bufLen (s : State) : (startOverride s).bufLen = s.bufLen := by
  unfold startOverride; split <;> rfl
@[simp] theorem startOverride_txbuf (s : State) : (startOverride s).txbuf = s.txbuf := by
  unfold startOverride; split <;> rfl
@[simp] theorem startOverride_sr (s : State) : (startOverride s).sr = s.sr := by
  unfold startOverride; split <;> rfl
@[simp] theorem startOverride_sttifg (s : State) : (startOverride s).sttifg = s.sttifg := by
  unfold startOverride; split <;> rfl
@[simp] theorem startOverride_ifg (s : State) : (startOverride s).ifg = s.ifg := by
  unfold startOverride; split <;> rfl
@[simp] theorem startOverride_cnt (s : State) : (startOverride s).cnt = s.cnt := by
  unfold startOverride; split <;> rfl
@[simp] theorem startOverride_oe (s : State) : (startOverride s).oe = s.oe := by
  unfold startOverride; split <;> rfl
@[simp] theorem startOverride_cfg (s : State) : (startOverride s).cfg = s.cfg := by
  unfold startOverride; split <;> rfl
@[simp] theorem startOverride_sttie (s : State) : (startOverride s).sttie = s.sttie := by
  unfold startOverride; split <;> rfl
@[simp] theorem startOverride_ie (s : State) : (startOverride s).ie = s.ie := by
  unfold startOverride; split <;> rfl
@[simp] theorem startOverride_gie (s : State) : (startOverride s).gie = s.gie := by
  unfold startOverride; split <;> rfl
@[simp] theorem startOverride_gieSaved (s : State) : (startOverride s).gieSaved = s.gieSaved := by
  unfold startOverride; split <;> rfl
@[simp] theorem startOverride_inCritical (s : State) : (startOverride s).inCritical = s.inCritical := by
  unfold startOverride; split <;> rfl
@[simp] theorem startOverride_initDone (s : State) : (startOverride s).initDone = s.initDone := by
  unfold startOverride; split <;> rfl
@[simp] theorem startOverride_wire (s : State) : (startOverride s).wire = s.wire := by
  unfold startOverride; split <;> rfl
@[simp] theorem startOverride_pendingWrites (s : State) : (startOverride s).pendingWrites = s.pendingWrites := by
  unfold startOverride; split <;> rfl
@[simp] theorem startOverride_unpacked (s : State) : (startOverride s).unpacked = s.unpacked := by
  unfold startOverride; split <;> rfl
@[simp] theorem startOverride_hostCalls (s : State) : (startOverride s).hostCalls = s.hostCalls := by
  unfold startOverride; split <;> rfl
@[simp] theorem startOverride_busEvents (s : State) : (startOverride s).busEvents = s.busEvents := by
  unfold startOverride; split <;> rfl
@[simp] theorem startOverride_turns (s : State) : (startOverride s).turns = s.turns := by
  unfold startOverride; split <;> rfl

end Sys2Proof.Machine
end

