-- ==== Sys2Proof/Laws/Memory.lean ====
section
/-! SUPPORT. The transmit buffer: a read after a write, and that a write keeps the canonical form. -/

namespace Sys2Proof.Machine

@[simp] theorem Memory.read_write_same (m : Memory) (a : Nat) (v : Byte) :
    Memory.read (Memory.write m a v) a = some v := by
  induction m with
  | nil => simp [Memory.write, Memory.read]
  | cons c rest ih =>
    simp only [Memory.write]
    split
    · simp [Memory.read]
    · split
      · simp [Memory.read]
      · rw [Memory.read, if_neg (by omega), ih]

theorem Memory.read_write_other (m : Memory) (a b : Nat) (v : Byte) (h : b ≠ a) :
    Memory.read (Memory.write m a v) b = Memory.read m b := by
  induction m with
  | nil => simp [Memory.write, Memory.read, Ne.symm h]
  | cons c rest ih =>
    simp only [Memory.write]
    split
    · rw [Memory.read, if_neg (Ne.symm h)]
    · split
      · rename_i h2
        rw [Memory.read, Memory.read, if_neg (Ne.symm h), if_neg (by omega)]
      · rw [Memory.read, Memory.read, ih]

theorem Memory.mem_write {m : Memory} {a : Nat} {v : Byte} {c : Host.Cell} (h : c ∈ Memory.write m a v) :
    c = (a, v) ∨ c ∈ m := by
  induction m with
  | nil => simpa [Memory.write] using h
  | cons d rest ih =>
    simp only [Memory.write] at h
    split at h
    · simpa using h
    · split at h
      · rcases List.mem_cons.mp h with h | h
        · exact .inl h
        · exact .inr (List.mem_cons_of_mem _ h)
      · rcases List.mem_cons.mp h with h | h
        · exact .inr (h ▸ List.mem_cons_self)
        · exact (ih h).imp id (List.mem_cons_of_mem _)

/-- A write keeps the cells strictly rising above a bound that the written address respects. -/
theorem Memory.write_rising (m : Memory) (lo : Option Nat) (a : Nat) (v : Byte)
    (hlo : ∀ l, lo = some l → l < a) (h : Memory.risingFrom lo m = true) :
    Memory.risingFrom lo (Memory.write m a v) = true := by
  induction m generalizing lo with
  | nil => cases lo <;> simp_all [Memory.write, Memory.risingFrom]
  | cons c rest ih =>
    simp only [Memory.risingFrom, Bool.and_eq_true] at h
    simp only [Memory.write]
    split
    · cases lo <;> simp_all [Memory.risingFrom]
    · split
      · subst a
        simpa only [Memory.risingFrom, Bool.and_eq_true] using h
      · simp only [Memory.risingFrom, Bool.and_eq_true]
        exact ⟨h.1, ih (some c.1) (fun l hl => by cases hl; omega) h.2⟩

/-- The one write operation keeps the canonical form. -/
theorem Memory.write_wf (m : Memory) (a : Nat) (v : Byte) (h : Memory.wf m = true) :
    Memory.wf (Memory.write m a v) = true :=
  Memory.write_rising m none a v (by simp) h

/-- A memory all of whose cells lie in the buffer keeps so under a write in the buffer. -/
theorem Memory.write_inBuffer {m : Memory} {a n : Nat} (v : Byte) (ha : a < n) (h : ∀ c ∈ m, c.1 < n) :
    ∀ c ∈ Memory.write m a v, c.1 < n := fun c hc => by
  rcases Memory.mem_write hc with rfl | hc
  · exact ha
  · exact h c hc

theorem reset_memory_wf : Memory.wf State.reset.txbuf = true := rfl

@[simp] theorem bufByte_write_same (s : State) (a : Nat) (v : Byte) :
    State.bufByte { s with txbuf := Memory.write s.txbuf a v } a = v := by
  simp [State.bufByte]

theorem bufByte_eq_of_read {s t : State} {a : Nat} (h : Memory.read t.txbuf a = Memory.read s.txbuf a) :
    t.bufByte a = s.bufByte a := by simp [State.bufByte, h]

end Sys2Proof.Machine
end

