-- ==== Sys2Proof/Laws/Ops.lean ====
section
/-! SUPPORT. One lemma per shared operation: everything it can do when it answers a next state. -/

namespace Sys2Proof.Machine

@[simp] theorem Result.andThen_next (s : State) (f : State → Result) :
    Result.andThen (.next s) f = f s := rfl

@[simp] theorem Result.andThen_fault (e : Fault) (f : State → Result) :
    Result.andThen (.fault e) f = .fault e := rfl

@[simp] theorem Result.andThen_refused (e : Refusal) (f : State → Result) :
    Result.andThen (.refused e) f = .refused e := rfl

theorem Result.andThen_eq_next {r : Result} {f : State → Result} {t : State}
    (h : Result.andThen r f = .next t) : ∃ u, r = .next u ∧ f u = .next t := by
  cases r with
  | next u => exact ⟨u, rfl, h⟩
  | fault e => cases h
  | refused e => cases h

/-- An invocation that is taken runs the action and clears `IFG`. -/
theorem takeInterrupt_taken (action : State → Result) {s : State} (hi : s.irq = true) (hg : s.gie = true) :
    takeInterrupt action s = (action s).andThen (fun t => .next (leaveHandler t)) := by
  simp [takeInterrupt, hi, hg]

/-- An invocation that answers a next state was taken with its action answering one, or was masked and waits. -/
theorem takeInterrupt_cases {action : State → Result} {s t : State} (h : takeInterrupt action s = .next t) :
    s.irq = true ∧ ((s.gie = true ∧ ∃ u, action s = .next u ∧ t = leaveHandler u) ∨ (s.gie = false ∧ t = s)) := by
  unfold takeInterrupt at h
  split at h
  · rename_i hi
    refine ⟨hi, ?_⟩
    split at h
    · rename_i hg
      obtain ⟨u, hu, ht⟩ := Result.andThen_eq_next h
      cases ht
      exact .inl ⟨hg, u, hu, rfl⟩
    · cases h
      exact .inr ⟨by simp_all, rfl⟩
  · cases h

/-- A next state after `MemWrite`: the byte was in the buffer and was written. -/
theorem memWrite_cases {i : Nat} {v : Byte} {s t : State} (h : memWrite i v s = .next t) :
    i < s.bufLen.n ∧ t = { s with txbuf := Memory.write s.txbuf i v } := by
  unfold memWrite at h
  split at h
  · cases h
    exact ⟨‹_›, rfl⟩
  · cases h

theorem memWrite_in {i : Nat} (v : Byte) {s : State} (h : i < s.bufLen.n) :
    memWrite i v s = .next { s with txbuf := Memory.write s.txbuf i v } := by simp [memWrite, h]

/-- A next state after `TX_NEXT`: the cursor was in the buffer and its byte was loaded. -/
theorem txNext_cases {s t : State} (h : txNext s = .next t) :
    s.dataIdx.toNat < s.bufLen.n ∧ t = loadByte (s.bufByte s.dataIdx.toNat) s := by
  unfold txNext at h
  split at h
  · cases h
    exact ⟨‹_›, rfl⟩
  · cases h

theorem txNext_in {s : State} (h : s.dataIdx.toNat < s.bufLen.n) :
    txNext s = .next (loadByte (s.bufByte s.dataIdx.toNat) s) := by simp [txNext, h]

/-- The TX_CHECK action ends the transaction or loads the next byte. -/
theorem txCheck_cases {s t : State} (h : txCheck s = .next t) :
    ((nackBit s.sr = true ∨ s.bufLen.n ≤ s.dataIdx.toNat) ∧ t = endTransaction s) ∨
    (nackBit s.sr = false ∧ s.dataIdx.toNat < s.bufLen.n ∧ t = loadByte (s.bufByte s.dataIdx.toNat) s) := by
  unfold txCheck at h
  split at h
  · cases h
    exact .inl ⟨.inl ‹_›, rfl⟩
  · rename_i hn
    split at h
    · rename_i hi
      obtain ⟨-, rfl⟩ := txNext_cases h
      exact .inr ⟨by simpa using hn, hi, rfl⟩
    · cases h
      exact .inl ⟨.inr (by omega), rfl⟩

/-- A run of byte writes changes the buffer only, where it writes, and keeps the buffer in form. -/
theorem writeAll_cases {ws : List (Nat × Byte)} {s t : State} (h : writeAll ws s = .next t) :
    ∃ m : Memory, t = { s with txbuf := m } ∧
      (Memory.wf s.txbuf = true → Memory.wf m = true) ∧
      ((∀ c ∈ s.txbuf, c.1 < s.bufLen.n) → ∀ c ∈ m, c.1 < s.bufLen.n) ∧
      ∀ a, a ∉ ws.map Prod.fst → Memory.read m a = Memory.read s.txbuf a := by
  induction ws generalizing s with
  | nil =>
    cases h
    exact ⟨t.txbuf, rfl, id, id, fun _ _ => rfl⟩
  | cons w rest ih =>
    obtain ⟨u, hu, h⟩ := Result.andThen_eq_next h
    obtain ⟨hw, rfl⟩ := memWrite_cases hu
    obtain ⟨m, rfl, hwf, hin, hread⟩ := ih h
    refine ⟨m, rfl, fun hs => hwf (Memory.write_wf _ _ _ hs), fun hs => hin (Memory.write_inBuffer _ hw hs), ?_⟩
    intro a ha
    simp only [List.map_cons, List.mem_cons, not_or] at ha
    rw [hread a ha.2, Memory.read_write_other _ _ _ _ ha.1]

/-- Byte writes that all lie in the buffer answer a next state. -/
theorem writeAll_in {ws : List (Nat × Byte)} {s : State} (h : ∀ w ∈ ws, w.1 < s.bufLen.n) :
    ∃ t, writeAll ws s = .next t := by
  induction ws generalizing s with
  | nil => exact ⟨s, rfl⟩
  | cons w rest ih =>
    simp only [writeAll]
    rw [memWrite_in _ (h w List.mem_cons_self), Result.andThen_next]
    exact ih (fun v hv => h v (List.mem_cons_of_mem _ hv))

/-- The next byte write of a pack in progress. -/
theorem writeNext_cases {s t : State} (h : writeNext s = .next t) :
    (s.pendingWrites = [] ∧ t = s) ∨
    ∃ w rest, s.pendingWrites = w :: rest ∧ w.1 < s.bufLen.n ∧
      t = { s with txbuf := Memory.write s.txbuf w.1 w.2, pendingWrites := rest } := by
  unfold writeNext at h
  split at h
  · cases h
    exact .inl ⟨‹_›, rfl⟩
  · obtain ⟨hw, rfl⟩ := memWrite_cases h
    exact .inr ⟨_, _, ‹_›, hw, rfl⟩

/-- Starting byte writes: inside a critical section all of them, outside one the first, the rest left to come. In both
cases only the buffer and the writes to come change. -/
theorem startWrites_cases {ws : List (Nat × Byte)} {s t : State} (h : startWrites ws s = .next t) :
    ∃ (m : Memory) (p : List (Nat × Byte)), t = { s with txbuf := m, pendingWrites := p } ∧
      (∀ w ∈ p, w ∈ s.pendingWrites ++ ws) ∧ (s.inCritical = true → p = []) ∧
      (Memory.wf s.txbuf = true → Memory.wf m = true) ∧
      ((∀ c ∈ s.txbuf, c.1 < s.bufLen.n) → ∀ c ∈ m, c.1 < s.bufLen.n) ∧
      ∀ a, a ∉ (s.pendingWrites ++ ws).map Prod.fst → Memory.read m a = Memory.read s.txbuf a := by
  unfold startWrites at h
  split at h
  · obtain ⟨m, rfl, hwf, hin, hread⟩ := writeAll_cases h
    exact ⟨m, [], rfl, by simp, fun _ => rfl, hwf, hin, hread⟩
  · rename_i hc
    rcases writeNext_cases h with ⟨hp, rfl⟩ | ⟨w, rest, hp, hw, rfl⟩
    · exact ⟨s.txbuf, _, rfl, fun _ hw => hw, by simp [hc], id, id, fun _ _ => rfl⟩
    · simp only at hp hw
      refine ⟨_, rest, rfl, fun v hv => hp ▸ List.mem_cons_of_mem _ hv, by simp [hc],
        Memory.write_wf _ _ _, Memory.write_inBuffer _ hw, ?_⟩
      intro a ha
      rw [hp] at ha
      simp only [List.map_cons, List.mem_cons, not_or] at ha
      exact Memory.read_write_other _ _ _ _ ha.1

/-- A codec write has the width of the buffer. -/
theorem packBytes_cases {bytes : List Byte} {s t : State} (h : packBytes bytes s = .next t) :
    bytes.length = s.bufLen.n ∧ startWrites (packWrites bytes) s = .next t := by
  unfold packBytes at h
  split at h
  · exact ⟨‹_›, h⟩
  · cases h

/-- A publish has the width of the buffer, stands outside a critical section, and changes only the buffer,
`GIE_SAVED` and the writes to come, of which none is left. -/
theorem publish_cases {bytes : List Byte} {s t : State} (h : publish bytes s = .next t) :
    bytes.length = s.bufLen.n ∧ s.inCritical = false ∧
    ∃ m : Memory, t = { s with txbuf := m, pendingWrites := [], gieSaved := s.gie } ∧
      (Memory.wf s.txbuf = true → Memory.wf m = true) ∧
      ((∀ c ∈ s.txbuf, c.1 < s.bufLen.n) → ∀ c ∈ m, c.1 < s.bufLen.n) ∧
      ∀ a, a ∉ (s.pendingWrites ++ packWrites bytes).map Prod.fst → Memory.read m a = Memory.read s.txbuf a := by
  unfold publish at h
  split at h
  · rename_i hn
    obtain ⟨u, hu, h⟩ := Result.andThen_eq_next h
    obtain ⟨v, hv, h⟩ := Result.andThen_eq_next h
    cases h
    unfold maskInterrupts at hu
    split at hu
    · cases hu
    · rename_i hc
      cases hu
      obtain ⟨-, hs⟩ := packBytes_cases hv
      obtain ⟨m, p, rfl, -, hp, hwf, hin, hread⟩ := startWrites_cases hs
      obtain rfl := hp rfl
      have hc : s.inCritical = false := by simpa using hc
      refine ⟨hn, hc, m, ?_, hwf, hin, hread⟩
      simp [enterCritical, leaveCritical, hc]
  · cases h

/-- The writes of a pack lie below the number of its bytes. -/
theorem packWrites_lt {bytes : List Byte} {w : Nat × Byte} (h : w ∈ packWrites bytes) : w.1 < bytes.length := by
  have := (List.of_mem_zip h).1
  simpa using this

end Sys2Proof.Machine
end

