-- ==== Sys2Proof/Laws/Exec.lean ====
section
/-! SUPPORT. The handler's actions as invocations of one action each. -/

namespace Sys2Proof.Machine

theorem exec_hStart (c : StateCode) (s : State) :
    exec (.hStart c) s = takeInterrupt (fun t => .next (addressAction (startOverride t))) s := rfl

theorem exec_hIdle (s : State) : exec .hIdle s = takeInterrupt (fun t => .next t) s := rfl

theorem exec_hAddress (s : State) : exec .hAddress s = takeInterrupt (fun t => .next (addressAction t)) s := rfl

theorem exec_hProcessAddress (s : State) :
    exec .hProcessAddress s = takeInterrupt (fun t => .next (processAddress t)) s := rfl

theorem exec_hRxCheck (s : State) :
    exec .hRxCheck s = takeInterrupt (fun t => .next { prepStart t with state := StateCode.idle }) s := rfl

theorem exec_hTxData (s : State) : exec .hTxData s = takeInterrupt txNext s := rfl

theorem exec_hAckNack (s : State) :
    exec .hAckNack s = takeInterrupt
      (fun t => .next { arm .one { t with oe := false } with state := StateCode.txCheck }) s := rfl

theorem exec_hTxCheck (s : State) : exec .hTxCheck s = takeInterrupt txCheck s := rfl

/-- The start override leaves nothing behind that the ADDRESS action does not write. -/
@[simp] theorem addressAction_startOverride (s : State) : addressAction (startOverride s) = addressAction s := by
  unfold startOverride
  split <;> rfl

/-- The PROCESS_ADDRESS action on a match and on a mismatch (41_address R72). -/
theorem processAddress_match {s : State} (h : s.sr = fold s.devAddr s.sr) :
    processAddress s = { s with
      devAddr := fold s.devAddr s.sr, oe := true, sr := 0x00#8, state := StateCode.txData, cnt := 1#4 } := by
  simp only [processAddress, if_pos h]
  rfl

theorem processAddress_mismatch {s : State} (h : s.sr ≠ fold s.devAddr s.sr) :
    processAddress s = { s with
      devAddr := fold s.devAddr s.sr, oe := true, sr := 0xFF#8, state := StateCode.rxCheck, cnt := 1#4 } := by
  simp only [processAddress, if_neg h]
  rfl

/-- A clock while no flag is pending and bits are armed (44_environment R107). -/
theorem exec_envClock_armed (m : Bool) {s : State} (hf : s.clockHeld = false) (hc : s.cnt ≠ 0#4) :
    exec (.envClock m) s = .next (traceWire (.clock (s.line m) s.oe) (shiftBit (s.line m) s)) := by
  simp [exec, execEnvClock, hf, hc]

/-- A clock while no flag is pending and nothing is armed (R107). -/
theorem exec_envClock_unarmed (m : Bool) {s : State} (hf : s.clockHeld = false) (hc : s.cnt = 0#4) :
    exec (.envClock m) s = .next (traceWire (.clock (s.line m) s.oe) s) := by
  simp [exec, execEnvClock, hf, hc]

/-- A held clock (R109). -/
theorem exec_envClock_held (m : Bool) {s : State} (hf : s.clockHeld = true) :
    exec (.envClock m) s = .next (holdEvent (envWord 0b01#2 m) s) := by
  simp [exec, execEnvClock, hf]

end Sys2Proof.Machine
end

