-- ==== Sys2Proof/Laws/PerInstr.lean ====
section
/-! SUPPORT. Per instruction: its word has the width of its row of the opcode table, and fits it. -/

namespace Sys2Proof.Laws.EncodedWidth

/-- The width of a word: 5 bits DISPATCH, 3 bits ENV, its own width HOST (30_encoding R46, R59). -/
def wordWidth (c : CodeWord) : Nat :=
  match c with
  | .dispatch _ => 5
  | .host w => w.width
  | .env _ => 3

/-- The number a word is. -/
def wordBits (c : CodeWord) : Nat :=
  match c with
  | .dispatch key => key.toNat
  | .host w => w.bits
  | .env e => e.toNat

/-- The width column of spec/opcode_table.json. -/
def rowWidth (i : Instr) : Nat :=
  match i with
  | .hStart _ => 5
  | .hIdle => 5
  | .hAddress => 5
  | .hProcessAddress => 5
  | .hRxCheck => 5
  | .hRxData => 5
  | .hTxData => 5
  | .hAckNack => 5
  | .hTxCheck => 5
  | .hIllegal _ => 5
  | .hostInit _ => 11
  | .setTransmitValue16 _ => 20
  | .setTransmitValue32 _ => 36
  | .pack16 _ => 20
  | .pack32 _ => 36
  | .unpack16 _ _ => 20
  | .unpack32 _ _ _ _ => 36
  | .irqMask => 4
  | .irqRestore => 4
  | .envStart _ => 3
  | .envClock _ => 3
  | .envStop _ => 3

/-- A well-formed instruction's word has its row's width and fits it. -/
def Statement (i : Instr) : Prop :=
  i.wf = true → wordWidth (encode i) = rowWidth i ∧ wordBits (encode i) < 2 ^ rowWidth i

/-- A HOST word fits when its tag has four bits and its operand fits the bits below. -/
theorem hostWord_bits {tag operandWidth operand : Nat} (ht : tag < 16) (ho : operand < 2 ^ operandWidth) :
    (hostWord tag operandWidth operand).bits < 2 ^ (operandWidth + 4) := by
  simp only [hostWord, Nat.pow_add]
  have : (tag + 1) * 2 ^ operandWidth ≤ 16 * 2 ^ operandWidth := Nat.mul_le_mul_right _ (by omega)
  rw [Nat.add_mul] at this
  omega

theorem hStart (cccc : StateCode) : Statement (.hStart cccc) := fun _ => ⟨rfl, (1#1 ++ cccc).isLt⟩
theorem hIdle : Statement .hIdle := fun _ => by decide
theorem hAddress : Statement .hAddress := fun _ => by decide
theorem hProcessAddress : Statement .hProcessAddress := fun _ => by decide
theorem hRxCheck : Statement .hRxCheck := fun _ => by decide
theorem hRxData : Statement .hRxData := fun _ => by decide
theorem hTxData : Statement .hTxData := fun _ => by decide
theorem hAckNack : Statement .hAckNack := fun _ => by decide
theorem hTxCheck : Statement .hTxCheck := fun _ => by decide
theorem hIllegal (xxx : BitVec 3) : Statement (.hIllegal xxx) := fun _ => ⟨rfl, (0#1 ++ xxx ++ 1#1).isLt⟩

theorem hostInit (a : Nat) : Statement (.hostInit a) := fun h =>
  ⟨rfl, hostWord_bits (by decide) (by have := of_decide_eq_true h; omega)⟩

theorem setTransmitValue16 (v : BitVec 16) : Statement (.setTransmitValue16 v) := fun _ =>
  ⟨rfl, hostWord_bits (by decide) v.isLt⟩
theorem setTransmitValue32 (v : BitVec 32) : Statement (.setTransmitValue32 v) := fun _ =>
  ⟨rfl, hostWord_bits (by decide) v.isLt⟩
theorem pack16 (v : BitVec 16) : Statement (.pack16 v) := fun _ => ⟨rfl, hostWord_bits (by decide) v.isLt⟩
theorem pack32 (v : BitVec 32) : Statement (.pack32 v) := fun _ => ⟨rfl, hostWord_bits (by decide) v.isLt⟩
theorem unpack16 (b0 b1 : Byte) : Statement (.unpack16 b0 b1) := fun _ =>
  ⟨rfl, hostWord_bits (by decide) (b0 ++ b1).isLt⟩
theorem unpack32 (b0 b1 b2 b3 : Byte) : Statement (.unpack32 b0 b1 b2 b3) := fun _ =>
  ⟨rfl, hostWord_bits (by decide) (b0 ++ b1 ++ b2 ++ b3).isLt⟩
theorem irqMask : Statement .irqMask := fun _ => by decide
theorem irqRestore : Statement .irqRestore := fun _ => by decide

theorem envStart (x : Bool) : Statement (.envStart x) := fun _ => ⟨rfl, (0b00#2 ++ BitVec.ofBool x).isLt⟩
theorem envClock (m : Bool) : Statement (.envClock m) := fun _ => ⟨rfl, (0b01#2 ++ BitVec.ofBool m).isLt⟩
theorem envStop (x : Bool) : Statement (.envStop x) := fun _ => ⟨rfl, (0b10#2 ++ BitVec.ofBool x).isLt⟩

end Sys2Proof.Laws.EncodedWidth
end

