-- ==== Sys2Proof/Laws/Step.lean ====
section
/-! SUPPORT. What one step can do: everything a later proof needs to know of fetching. -/

namespace Sys2Proof.Machine

/-- `s` with other queues: what fetching may change. -/
abbrev State.withQueues (s : State) (hc : List HostWord) (be : List EnvWord) (ts : List Agent) : State :=
  { s with hostCalls := hc, busEvents := be, turns := ts }

/-- Every HOST word that decodes gives a producer call. -/
theorem decodeHost_isProducerCall {w : HostWord} {i : Instr} (h : decodeHost w = .ok i) :
    isProducerCall i = true := by
  unfold decodeHost at h
  split at h
  · cases h
  · split at h
    · rename_i n j hn hj
      split at h
      · cases h
        unfold hostInstr at hj
        split at hj <;> cases hj <;> rfl
      · cases h
    · cases h

/-- Every ENV word that decodes gives a bus event. -/
theorem decodeEnv_isBusEvent {e : EnvWord} {i : Instr} (h : decodeEnv e = .ok i) : isBusEvent i = true := by
  unfold decodeEnv at h
  split at h <;> cases h <;> rfl

/-- Every dispatch key gives a handler action. -/
theorem decodeDispatch_isHandlerAction : ∀ k : DispatchKey, isHandlerAction (decodeDispatch k) = true := by
  decide

/-- What fetching for one agent can answer: an instruction of that agent in a state that differs in the queues
only, or an answer without an instruction. -/
theorem fetchFor_cases (a : Agent) (s : State) :
    ∃ hc be, let u := s.withQueues hc be s.turns
      (fetchFor a s = .ok (decodeDispatch s.dispatchKey, u)) ∨
      (∃ i, isProducerCall i = true ∧ s.pendingWrites = [] ∧ fetchFor a s = .ok (i, u)) ∨
      (∃ i, isBusEvent i = true ∧ fetchFor a s = .ok (i, u)) ∨
      fetchFor a s = .error (writeNext u) ∨
      fetchFor a s = .error (.next u) ∨
      ∃ e, fetchFor a s = .error (.refused (refusalOf e)) := by
  cases a with
  | handler => exact ⟨s.hostCalls, s.busEvents, .inl rfl⟩
  | producer =>
    simp only [fetchFor, fetchProducer]
    split
    · exact ⟨s.hostCalls, s.busEvents, .inr (.inr (.inr (.inl rfl)))⟩
    · rename_i hp
      split
      · exact ⟨s.hostCalls, s.busEvents, .inr (.inr (.inr (.inr (.inl rfl))))⟩
      · rename_i w rest hw
        split
        · rename_i i hi
          exact ⟨rest, s.busEvents, .inr (.inl ⟨i, decodeHost_isProducerCall hi, hp, rfl⟩)⟩
        · exact ⟨s.hostCalls, s.busEvents, .inr (.inr (.inr (.inr (.inr ⟨_, rfl⟩))))⟩
  | environment =>
    simp only [fetchFor, fetchEnvironment]
    split
    · exact ⟨s.hostCalls, s.busEvents, .inr (.inr (.inr (.inr (.inl rfl))))⟩
    · rename_i w rest hw
      split
      · rename_i i hi
        exact ⟨s.hostCalls, rest, .inr (.inr (.inl ⟨i, decodeEnv_isBusEvent hi, rfl⟩))⟩
      · exact ⟨s.hostCalls, s.busEvents, .inr (.inr (.inr (.inr (.inr ⟨_, rfl⟩))))⟩

/-- A step is a turn of one agent, or nothing at all. -/
theorem step_turn (s : State) :
    (∃ a ts, fetch s = fetchFor a { s with turns := ts }) ∨ step s = .next s := by
  cases ht : s.turns with
  | cons a rest => exact .inl ⟨a, rest, by simp [fetch, ht]⟩
  | nil =>
    cases hd : defaultAgent s with
    | some a => exact .inl ⟨a, s.turns, by simp only [fetch, ht, hd]; rw [← ht]⟩
    | none => exact .inr (by simp [step, fetch, ht, hd])

/-- Everything a step can be: `u` is `s` with the queues moved on. -/
theorem step_cases (s : State) :
    ∃ hc be ts, let u := s.withQueues hc be ts
      (step s = exec (decodeDispatch s.dispatchKey) u) ∨
      (∃ i, isProducerCall i = true ∧ s.pendingWrites = [] ∧ step s = exec i u) ∨
      (∃ i, isBusEvent i = true ∧ step s = exec i u) ∨
      step s = writeNext u ∨
      step s = .next u ∨
      ∃ e, step s = .refused (refusalOf e) := by
  rcases step_turn s with ⟨a, ts, h⟩ | h
  · obtain ⟨hc, be, hu⟩ := fetchFor_cases a { s with turns := ts }
    refine ⟨hc, be, ts, ?_⟩
    simp only [step, h]
    rcases hu with hu | ⟨i, hi, hp, hu⟩ | ⟨i, hi, hu⟩ | hu | hu | ⟨e, hu⟩
    · exact .inl (by rw [hu]; rfl)
    · exact .inr (.inl ⟨i, hi, hp, by rw [hu]⟩)
    · exact .inr (.inr (.inl ⟨i, hi, by rw [hu]⟩))
    · exact .inr (.inr (.inr (.inl (by rw [hu]))))
    · exact .inr (.inr (.inr (.inr (.inl (by rw [hu])))))
    · exact .inr (.inr (.inr (.inr (.inr ⟨e, by rw [hu]⟩))))
  · exact ⟨s.hostCalls, s.busEvents, s.turns, .inr (.inr (.inr (.inr (.inl h))))⟩

end Sys2Proof.Machine
end

