-- ==== Sys2Proof/Tests/Slice0.lean ====
section
/-! SUPPORT. The model's own tests. Expected results come from the encodings of 30_encoding R47, R59 and the vectors
of 95_test_vectors; the witnesses show that the hypotheses of the obligations can be met. -/

open Sys2Proof Sys2Proof.Machine

namespace Sys2Proof.Tests

/-! ## Helpers -/

/-- The common start state Q0 of 95_test_vectors part 3: initialised for 0x24, buffer [0x12, 0x34], engine ready. -/
def ready : State :=
  { State.reset with
    cfg := configuredCfg, sttie := true, ie := true, gie := true, initDone := true
    txbuf := [(0, 0x12#8), (1, 0x34#8)] }

/-- The same with `N = 4` and the buffer of 95_test_vectors 2.3. -/
def ready4 : State :=
  { ready with bufLen := .four, txbuf := [(0, 0xDE#8), (1, 0xAD#8), (2, 0xBE#8), (3, 0xEF#8)] }

/-- `ready` with the completion flag up in protocol state `st`. -/
def completed (st : StateCode) : State := { ready with state := st, ifg := true }

/-- Inside a transaction addressed with `{0x24, 1}`: `DEV_ADDR = 0x49`. -/
def inTransaction (st : StateCode) (idx : BitVec 3) (sr : Byte) (oe : Bool) : State :=
  { completed st with devAddr := 0x49#8, dataIdx := idx, sr := sr, oe := oe }

/-- The same with `N = 4`. -/
def inTransaction4 (st : StateCode) (idx : BitVec 3) (sr : Byte) (oe : Bool) : State :=
  { inTransaction st idx sr oe with bufLen := .four, txbuf := ready4.txbuf }

/-- The result is a next state of which `p` holds. -/
def nextIs (r : Result) (p : State → Bool) : Bool :=
  match r with
  | .next s => p s
  | .fault _ => false
  | .refused _ => false

/-- The result is the refusal `e`. -/
def refuses (r : Result) (e : Refusal) : Bool :=
  match r with
  | .next _ => false
  | .fault _ => false
  | .refused f => decide (f = e)

/-- The result is the fault `e`. -/
def faults (r : Result) (e : Fault) : Bool :=
  match r with
  | .next _ => false
  | .fault f => decide (f = e)
  | .refused _ => false

/-! ## Well-formedness -/

theorem test_wf_refuses_initialize_128 : (Instr.hostInit 128).wf = false := by decide
theorem test_wf_accepts_initialize_127 : (Instr.hostInit 127).wf = true := by decide

/-! ## Decoding: words written out from 30_encoding R47 and R59 -/

theorem test_decode_H_START : decode (.dispatch 0b11110#5) = .ok (.hStart 0b1110#4) := by decide
theorem test_decode_H_IDLE : decode (.dispatch 0b00000#5) = .ok .hIdle := by decide
theorem test_decode_H_ADDRESS : decode (.dispatch 0b00010#5) = .ok .hAddress := by decide
theorem test_decode_H_PROCESS_ADDRESS : decode (.dispatch 0b00100#5) = .ok .hProcessAddress := by decide
theorem test_decode_H_RX_CHECK : decode (.dispatch 0b00110#5) = .ok .hRxCheck := by decide
theorem test_decode_H_RX_DATA : decode (.dispatch 0b01000#5) = .ok .hRxData := by decide
theorem test_decode_H_TX_DATA : decode (.dispatch 0b01010#5) = .ok .hTxData := by decide
theorem test_decode_H_ACK_NACK : decode (.dispatch 0b01100#5) = .ok .hAckNack := by decide
theorem test_decode_H_TX_CHECK : decode (.dispatch 0b01110#5) = .ok .hTxCheck := by decide
theorem test_decode_H_ILLEGAL : decode (.dispatch 0b01011#5) = .ok (.hIllegal 0b101#3) := by decide
theorem test_decode_initialize : decode (.host ⟨11, 0b0000_0100100⟩) = .ok (.hostInit 0x24) := by decide
theorem test_decode_set_transmit_value16 :
    decode (.host ⟨20, 0b0001_1010101111001101⟩) = .ok (.setTransmitValue16 0xABCD#16) := by decide
theorem test_decode_set_transmit_value32 :
    decode (.host ⟨36, 0b0010_11011110101011011011111011101111⟩) = .ok (.setTransmitValue32 0xDEADBEEF#32) := by
  decide
theorem test_decode_pack16 : decode (.host ⟨20, 0b0011_1000000000000001⟩) = .ok (.pack16 0x8001#16) := by decide
theorem test_decode_pack32 :
    decode (.host ⟨36, 0b0100_00010010001101000101011001111000⟩) = .ok (.pack32 0x12345678#32) := by decide
theorem test_decode_unpack16 :
    decode (.host ⟨20, 0b0101_0001001000110100⟩) = .ok (.unpack16 0x12#8 0x34#8) := by decide
theorem test_decode_unpack32 :
    decode (.host ⟨36, 0b0110_00000001000000100000001100000100⟩) = .ok (.unpack32 0x01#8 0x02#8 0x03#8 0x04#8) := by
  decide
theorem test_decode_irq_mask : decode (.host ⟨4, 0b0111⟩) = .ok .irqMask := by decide
theorem test_decode_irq_restore : decode (.host ⟨4, 0b1000⟩) = .ok .irqRestore := by decide
theorem test_decode_ENV_START : decode (.env 0b000#3) = .ok (.envStart false) := by decide
theorem test_decode_ENV_CLOCK : decode (.env 0b011#3) = .ok (.envClock true) := by decide
theorem test_decode_ENV_STOP : decode (.env 0b100#3) = .ok (.envStop false) := by decide
theorem test_decode_reserved_host_tag : decode (.host ⟨4, 0b1001⟩) = .error .hostReservedTag := by decide
theorem test_decode_reserved_env_tag : decode (.env 0b110#3) = .error .envReservedTag := by decide
theorem test_decode_wrong_host_width : decode (.host ⟨20, 0b0111_0000000000000000⟩) = .error .hostMalformed := by
  decide
theorem test_table_word_dispatch : decodeTableWord 8 0x0E = some .hTxCheck := by decide
theorem test_table_word_host : decodeTableWord 24 0x3ABCD = some (.pack16 0xABCD#16) := by decide
theorem test_table_word_env : decodeTableWord 3 0b011 = some (.envClock true) := by decide

/-! ## The handler's actions (95_test_vectors 2.1 to 2.3) -/

/-- V-D13: the start is served, the TX_CHECK action does not run. -/
theorem test_H_START_preempts :
    nextIs (invokeHandler { inTransaction 14#4 1#3 0x24#8 false with sttifg := true }) (fun t =>
      t.state = 4#4 ∧ t.dataIdx = 0#3 ∧ t.devAddr = 0x48#8 ∧ t.cnt = 8#4 ∧ t.sttifg = false ∧ t.ifg = false) := by
  decide

/-- V-A17. -/
theorem test_H_START_keeps_OE :
    nextIs (exec (.hStart 12#4) { inTransaction 12#4 2#3 0x00#8 true with sttifg := true, cnt := 5#4 }) (fun t =>
      t.state = 4#4 ∧ t.dataIdx = 0#3 ∧ t.devAddr = 0x48#8 ∧ t.cnt = 8#4 ∧ t.oe = true) := by decide

/-- V-D1. -/
theorem test_H_IDLE : nextIs (invokeHandler (completed 0#4)) (fun t => decide (t = ready)) := by decide

/-- V-D11. -/
theorem test_H_ADDRESS :
    nextIs (invokeHandler (completed 2#4)) (fun t => t.state = 4#4 ∧ t.sttifg = false ∧ t.ifg = false) := by decide

/-- V-A1. -/
theorem test_H_PROCESS_ADDRESS_match :
    nextIs (invokeHandler { completed 4#4 with sr := 0x49#8 }) (fun t =>
      t.devAddr = 0x49#8 ∧ t.sr = 0x00#8 ∧ t.state = 10#4 ∧ t.oe = true ∧ t.cnt = 1#4) := by decide

/-- V-A13: no wrap, and the read bit alone does not match. -/
theorem test_H_PROCESS_ADDRESS_mismatch :
    nextIs (invokeHandler { completed 4#4 with ownAddr := 0x7F#7, devAddr := 0xFE#8, sr := 0x7F#8 }) (fun t =>
      t.devAddr = 0xFF#8 ∧ t.sr = 0xFF#8 ∧ t.state = 6#4 ∧ t.oe = true ∧ t.cnt = 1#4) := by decide

/-- V-A16. -/
theorem test_H_RX_CHECK :
    nextIs (invokeHandler (inTransaction 6#4 0#3 0xFF#8 true)) (fun t =>
      t.state = 0#4 ∧ t.oe = false ∧ t.devAddr = 0x48#8 ∧ t.ifg = false) := by decide

/-- V-D9. -/
theorem test_H_RX_DATA : refuses (invokeHandler (completed 8#4)) .rxDataHasNoAction := by decide

/-- V-D10. -/
theorem test_H_ILLEGAL : refuses (invokeHandler (completed 5#4)) .illegalStateCode := by decide

/-- V-T8. -/
theorem test_H_TX_DATA :
    nextIs (invokeHandler (inTransaction 10#4 0#3 0x00#8 true)) (fun t =>
      t.sr = 0x12#8 ∧ t.cnt = 8#4 ∧ t.oe = true ∧ t.dataIdx = 1#3 ∧ t.state = 12#4) := by decide

/-- V-T10. -/
theorem test_H_TX_DATA_out_of_range :
    faults (invokeHandler (inTransaction 10#4 2#3 0x00#8 true)) .bufferIndexOutOfRange := by decide

/-- V-T9. -/
theorem test_H_ACK_NACK :
    nextIs (invokeHandler (inTransaction 12#4 1#3 0x12#8 true)) (fun t =>
      t.oe = false ∧ t.cnt = 1#4 ∧ t.sr = 0x12#8 ∧ t.state = 14#4) := by decide

/-- V-T5. -/
theorem test_H_TX_CHECK_next_byte :
    nextIs (invokeHandler (inTransaction4 14#4 3#3 0x7C#8 false)) (fun t =>
      t.oe = true ∧ t.sr = 0xEF#8 ∧ t.cnt = 8#4 ∧ t.dataIdx = 4#3 ∧ t.state = 12#4) := by decide

/-- V-T4. -/
theorem test_H_TX_CHECK_exhausted :
    nextIs (invokeHandler (inTransaction 14#4 2#3 0x68#8 false)) (fun t =>
      t.dataIdx = 0#3 ∧ t.oe = false ∧ t.devAddr = 0x48#8 ∧ t.state = 0#4) := by decide

/-- V-D12. -/
theorem test_no_flag_is_refused : refuses (invokeHandler ready) .handlerWithoutPendingFlag := by decide

/-- V-D14. -/
theorem test_masked_start_stays_pending :
    nextIs (invokeHandler { ready with sttifg := true, gie := false })
      (fun t => decide (t = { ready with sttifg := true, gie := false })) := by decide

/-! ## The producer (95_test_vectors 2.4) -/

/-- V-C17. -/
theorem test_initialize :
    nextIs (exec (.hostInit 0x24) State.reset) (fun t =>
      t.ownAddr = 0x24#7 ∧ t.devAddr = 0x48#8 ∧ t.state = 0#4 ∧ t.dataIdx = 0#3 ∧ t.oe = false ∧ t.cnt = 0#4 ∧
      t.sttie = true ∧ t.ie = true ∧ t.gie = true) := by decide

/-- V-C20. -/
theorem test_initialize_0x80 : refuses (exec (.hostInit 0x80) State.reset) .addressOutOfRange := by decide

/-- V-C11. -/
theorem test_set_transmit_value16 :
    nextIs (exec (.setTransmitValue16 0xABCD#16) ready) (fun t =>
      t.txbuf = [(0, 0xAB#8), (1, 0xCD#8)] ∧ t.gie = true) := by decide

/-- V-C12. -/
theorem test_set_transmit_value16_before_initialize :
    nextIs (exec (.setTransmitValue16 0xABCD#16) State.reset) (fun t =>
      t.txbuf = [(0, 0xAB#8), (1, 0xCD#8)] ∧ t.gie = false) := by decide

/-- The value of V-C6c, published (43_codec_host R97). -/
theorem test_set_transmit_value32 :
    nextIs (exec (.setTransmitValue32 0xDEADBEEF#32) { ready4 with txbuf := [] }) (fun t =>
      t.txbuf = [(0, 0xDE#8), (1, 0xAD#8), (2, 0xBE#8), (3, 0xEF#8)] ∧ t.gie = true) := by decide

/-- V-C13. -/
theorem test_set_transmit_value32_width : refuses (exec (.setTransmitValue32 1#32) ready) .widthMismatch := by
  decide

/-- V-C5, in a critical section. -/
theorem test_pack16 :
    nextIs (exec (.pack16 0x8001#16) { ready with gie := false, inCritical := true }) (fun t =>
      decide (t.txbuf = [(0, 0x80#8), (1, 0x01#8)])) := by decide

/-- V-H1: the first byte write of an unprotected pack. -/
theorem test_pack16_unmasked :
    nextIs (exec (.pack16 0xABCD#16) ready) (fun t =>
      t.txbuf = [(0, 0xAB#8), (1, 0x34#8)] ∧ t.pendingWrites = [(1, 0xCD#8)]) := by decide

/-- 20_memory R36, before `initialize`: outside a critical section the bytes are separate steps with `GIE = 0` too. -/
theorem test_pack32_before_initialize :
    nextIs (exec (.pack32 0x12345678#32) { State.reset with bufLen := .four }) (fun t =>
      t.txbuf = [(0, 0x12#8)] ∧ t.pendingWrites = [(1, 0x34#8), (2, 0x56#8), (3, 0x78#8)]) := by decide

/-- V-C6, in a critical section. -/
theorem test_pack32 :
    nextIs (exec (.pack32 0x12345678#32) { ready4 with gie := false, inCritical := true }) (fun t =>
      decide (t.txbuf = [(0, 0x12#8), (1, 0x34#8), (2, 0x56#8), (3, 0x78#8)])) := by decide

/-- V-C7. -/
theorem test_unpack16 :
    nextIs (exec (.unpack16 0x12#8 0x34#8) ready) (fun t => decide (t.unpacked = some (.u16 0x1234#16))) := by decide

/-- The value of V-C6 read back (43_codec_host R93). -/
theorem test_unpack32 :
    nextIs (exec (.unpack32 0x12#8 0x34#8 0x56#8 0x78#8) ready)
      (fun t => decide (t.unpacked = some (.u32 0x12345678#32))) := by decide

/-- V-C15, first half. -/
theorem test_irq_mask : nextIs (exec .irqMask ready) (fun t => t.gie = false ∧ t.gieSaved = true) := by decide

/-- V-C16. -/
theorem test_irq_mask_nested : refuses (exec .irqMask { ready with inCritical := true }) .nestedCriticalSection := by
  decide

/-- V-C15, second half. -/
theorem test_irq_restore :
    nextIs (exec .irqRestore { ready with gie := false, gieSaved := true, inCritical := true })
      (fun t => t.gie = true ∧ t.inCritical = false) := by decide

/-! ## The environment (95_test_vectors 2.5) -/

/-- V-E11. -/
theorem test_ENV_START :
    nextIs (exec (.envStart false) { inTransaction 12#4 1#3 0xA1#8 true with ifg := false, cnt := 5#4 }) (fun t =>
      t.sttifg = true ∧ t.cnt = 5#4 ∧ t.sr = 0xA1#8) := by decide

/-- V-E2. -/
theorem test_ENV_CLOCK_last_bit :
    nextIs (exec (.envClock true) { ready with oe := true, sr := 0x80#8, cnt := 1#4 }) (fun t =>
      t.sr = 0x01#8 ∧ t.cnt = 0#4 ∧ t.ifg = true ∧ t.wire = [.clock true true]) := by decide

/-- V-E5. -/
theorem test_ENV_CLOCK_both_drive :
    nextIs (exec (.envClock false) { ready with oe := true, sr := 0xFF#8, cnt := 8#4 }) (fun t =>
      t.sr = 0xFE#8 ∧ t.cnt = 7#4 ∧ t.ifg = false) := by decide

/-- V-E12. -/
theorem test_ENV_STOP :
    nextIs (exec (.envStop false) ready) (fun t => decide (t = { ready with wire := [.stop] })) := by decide

/-! ## Witnesses of the obligations' hypotheses -/

theorem ready_is_ready : ready.Ready := ⟨by decide, by decide, by decide, by decide⟩
theorem ready4_is_ready : ready4.Ready := ⟨by decide, by decide, by decide, by decide⟩

theorem ready_inv : Inv ready := by
  refine ⟨⟨by decide, by decide, by decide⟩, ?_, ⟨by decide, by decide⟩⟩
  constructor <;> first | decide | exact fun _ => ready_is_ready

/-- A state in `S_PROCESS_ADDRESS` with a completed address byte meets the invariant. -/
theorem processAddress_inv : Inv { completed 4#4 with sr := 0x4B#8 } := by
  refine ⟨⟨by decide, by decide, by decide⟩, ?_, ⟨by decide, by decide⟩⟩
  constructor <;> first | decide | (intro h; cases h)

/-- States in `S_TX_CHECK` with the acknowledge bit received meet the invariant. -/
theorem txCheck_nack_inv : Inv (inTransaction 14#4 1#3 0x25#8 false) := by
  refine ⟨⟨by decide, by decide, by decide⟩, ?_, ⟨by decide, by decide⟩⟩
  constructor <;> first | decide | (intro h; cases h)

theorem txCheck_exhausted_inv : Inv (inTransaction 14#4 2#3 0x68#8 false) := by
  refine ⟨⟨by decide, by decide, by decide⟩, ?_, ⟨by decide, by decide⟩⟩
  constructor <;> first | decide | (intro h; cases h)

theorem preempted_inv : Inv { inTransaction 14#4 1#3 0x24#8 false with sttifg := true } := by
  refine ⟨⟨by decide, by decide, by decide⟩, ?_, ⟨by decide, by decide⟩⟩
  constructor <;> first | decide | (intro h; cases h)

theorem rxCheck_inv : Inv (inTransaction 6#4 0#3 0xFF#8 true) := by
  refine ⟨⟨by decide, by decide, by decide⟩, ?_, ⟨by decide, by decide⟩⟩
  constructor <;> first | decide | (intro h; cases h)

theorem witness_DispatchMapCoversEveryKeyOnce :
    0x10#5 &&& 0x10#5 = 0x10#5 ∧ 0x1F#5 &&& 0x10#5 = 0x10#5 ∧ 0x01#5 &&& 0x11#5 = 0x01#5 ∧
      0x0F#5 &&& 0x11#5 = 0x01#5 := by decide

theorem witness_DecodeUndoesEncode : (Instr.hostInit 0).wf = true ∧ (Instr.hostInit 127).wf = true := by decide

theorem witness_EncodeUndoesDecode :
    decode (.host ⟨11, 0⟩) = .ok (.hostInit 0) ∧ decode (.host ⟨11, 127⟩) = .ok (.hostInit 127) ∧
      decode (.env 0b101#3) = .ok (.envStop true) := by decide

theorem witness_ReservedTagsAreRefused_host :
    (4 ≤ (⟨4, 9⟩ : HostWord).width ∧ 9 < 2 ^ 4 ∧ 9 ≤ 9 / 2 ^ (4 - 4)) ∧ 15 < 2 ^ 4 ∧ 9 ≤ 15 / 2 ^ (4 - 4) ∧
      ({ ready with turns := [.producer], hostCalls := [⟨4, 9⟩] } : State).turns = .producer :: [] ∧
      ({ ready with turns := [.producer], hostCalls := [⟨4, 9⟩] } : State).pendingWrites = [] := by decide

theorem witness_ReservedTagsAreRefused_env :
    ({ ready with turns := [.environment], busEvents := [0b11#2 ++ BitVec.ofBool true] } : State).busEvents =
      (0b11#2 ++ BitVec.ofBool true) :: [] := by decide

theorem witness_StepRunsTheDecodedInstruction_handler :
    ({ completed 4#4 with turns := [.handler] } : State).turns = .handler :: [] := by decide

theorem witness_StepRunsTheDecodedInstruction_producer :
    let s := { ready with turns := [.producer], hostCalls := [⟨4, 7⟩] }
    s.turns = .producer :: [] ∧ s.pendingWrites = [] ∧ s.hostCalls = ⟨4, 7⟩ :: [] ∧
      decode (.host ⟨4, 7⟩) = .ok .irqMask := by decide

theorem witness_StepRunsTheDecodedInstruction_environment :
    let s := { ready with turns := [.environment], busEvents := [0b000#3] }
    s.turns = .environment :: [] ∧ s.busEvents = 0b000#3 :: [] ∧ decode (.env 0b000#3) = .ok (.envStart false) := by
  decide

theorem witness_StepWithoutTurnsTakesTheDefaultOrder_handler :
    (completed 4#4).turns = [] ∧ (completed 4#4).handlerEnabled = true := by decide

theorem witness_StepWithoutTurnsTakesTheDefaultOrder_producer :
    let s := { ready with hostCalls := [⟨4, 7⟩] }
    s.turns = [] ∧ s.handlerEnabled = false ∧ s.pendingWrites = [] ∧ s.hostCalls = ⟨4, 7⟩ :: [] ∧
      decode (.host ⟨4, 7⟩) = .ok .irqMask := by decide

theorem witness_StepWithoutTurnsTakesTheDefaultOrder_pack :
    let s := { ready with pendingWrites := [(1, 0xCD#8)] }
    s.turns = [] ∧ s.handlerEnabled = false ∧ s.pendingWrites = (1, 0xCD#8) :: [] ∧ 1 < s.bufLen.n := by decide

theorem witness_StepWithoutTurnsTakesTheDefaultOrder_environment :
    let s := { ready with busEvents := [0b000#3] }
    s.turns = [] ∧ s.handlerEnabled = false ∧ s.pendingWrites = [] ∧ s.hostCalls = [] ∧
      s.busEvents = 0b000#3 :: [] ∧ decode (.env 0b000#3) = .ok (.envStart false) := by decide

theorem witness_StepWithoutTurnsTakesTheDefaultOrder_nobody :
    ready.turns = [] ∧ ready.handlerEnabled = false ∧ ready.pendingWrites = [] ∧ ready.hostCalls = [] ∧
      ready.busEvents = [] := by decide

theorem witness_PlacedWordRunsNext :
    decodeTableWord 8 0x04 = some .hProcessAddress ∧ decodeTableWord 16 0x24 = some (.hostInit 0x24) ∧
      decodeTableWord 3 0b010 = some (.envClock false) := by decide

theorem witness_HandlerWaitsForGieAndNeedsAFlag :
    isHandlerAction .hIdle = true ∧ ((ready.sttifg && ready.sttie) || (ready.ifg && ready.ie)) = false ∧
      (let s := { completed 0#4 with gie := false }
       ((s.sttifg && s.sttie) || (s.ifg && s.ie)) = true ∧ s.gie = false) ∧
      (let s := completed 0#4
       ((s.sttifg && s.sttie) || (s.ifg && s.ie)) = true ∧ s.gie = true) := by decide

/-- Every statement of the handler's actions asks for a pending enabled flag with `GIE = 1`; the start flag and the
completion flag each give one. -/
theorem witness_AddressActionRestartsTheTransaction :
    ({ ready with sttifg := true } : State).irq = true ∧ (completed 2#4).irq = true ∧ ready.gie = true := by decide

theorem witness_IdleActionDoesNothing : (completed 0#4).irq = true ∧ (completed 0#4).gie = true := by decide

theorem witness_ProcessAddressFoldsComparesAndAnswers_match :
    let s := { completed 4#4 with sr := 0x49#8 }
    s.irq = true ∧ s.gie = true ∧ 0x49#8 = (if s.sr.getLsbD 0 = true then s.devAddr + 1#8 else s.devAddr) ∧
      s.sr = 0x49#8 := by decide

theorem witness_ProcessAddressFoldsComparesAndAnswers_mismatch :
    let s := { completed 4#4 with sr := 0x4A#8 }
    s.irq = true ∧ s.gie = true ∧ 0x48#8 = (if s.sr.getLsbD 0 = true then s.devAddr + 1#8 else s.devAddr) ∧
      s.sr ≠ 0x48#8 := by decide

theorem witness_MatchIsOnTheSevenAddressBits_match :
    let s := { completed 4#4 with ownAddr := 0x7F#7, devAddr := 0xFE#8, sr := 0xFF#8 }
    s.irq = true ∧ s.gie = true ∧ s.devAddr = (s.ownAddr ++ 0#1 : BitVec 8) ∧ s.sr.extractLsb' 1 7 = s.ownAddr := by decide

theorem witness_MatchIsOnTheSevenAddressBits_mismatch :
    let s := { completed 4#4 with sr := 0xC9#8 }
    s.irq = true ∧ s.gie = true ∧ s.devAddr = (s.ownAddr ++ 0#1 : BitVec 8) ∧ s.sr.extractLsb' 1 7 ≠ s.ownAddr := by decide

theorem witness_RxCheckReprimesAndGoesIdle :
    (inTransaction 6#4 0#3 0xFF#8 true).irq = true ∧ (inTransaction 6#4 0#3 0xFF#8 true).gie = true := by decide

theorem witness_ReservedAndIllegalStatesAreRefused :
    (completed 8#4).irq = true ∧ (completed 5#4).irq = true := by decide

theorem witness_TxDataLoadsTheByteAtTheCursor_in :
    let s := inTransaction 10#4 1#3 0x00#8 true
    s.irq = true ∧ s.gie = true ∧ s.dataIdx.toNat < s.bufLen.n := by decide

theorem witness_TxDataLoadsTheByteAtTheCursor_out :
    let s := inTransaction 10#4 2#3 0x00#8 true
    s.irq = true ∧ s.gie = true ∧ s.bufLen.n ≤ s.dataIdx.toNat := by decide

theorem witness_AckNackReleasesTheLine :
    (inTransaction 12#4 1#3 0x12#8 true).irq = true ∧ (inTransaction 12#4 1#3 0x12#8 true).gie = true := by decide

theorem witness_TxCheckActsOnTheAcknowledgeBit_nack :
    let s := inTransaction 14#4 1#3 0x25#8 false
    s.irq = true ∧ s.gie = true ∧ s.sr.getLsbD 0 = true := by decide

theorem witness_TxCheckActsOnTheAcknowledgeBit_exhausted :
    let s := inTransaction 14#4 2#3 0x68#8 false
    s.irq = true ∧ s.gie = true ∧ s.bufLen.n ≤ s.dataIdx.toNat := by decide

theorem witness_TxCheckActsOnTheAcknowledgeBit_ack :
    let s := inTransaction 14#4 1#3 0x24#8 false
    s.irq = true ∧ s.gie = true ∧ s.sr.getLsbD 0 = false ∧ s.dataIdx.toNat < s.bufLen.n := by decide

/-- The premises of the transition table, for a start in a state that names no action and for each state that
does. -/
def tablePremise (s : State) : Bool :=
  s.irq && s.gie && (s.state != 10#4 || decide (s.dataIdx.toNat < s.bufLen.n)) &&
    (s.sttifg || (!s.state.getLsbD 0 && s.state != 8#4))

theorem witness_HandlerFollowsTheTransitionTable_start :
    let s := { completed 8#4 with sttifg := true }
    tablePremise s = true ∧ s.sttifg = true := by decide

theorem witness_HandlerFollowsTheTransitionTable_flag_clear :
    [0#4, 2#4, 6#4, 10#4, 12#4].all (fun st => tablePremise (completed st) && !(completed st).sttifg) = true := by
  decide

theorem witness_HandlerFollowsTheTransitionTable_address :
    let s := { completed 4#4 with sr := 0x48#8 }
    let m := { completed 4#4 with sr := 0x4A#8 }
    tablePremise s = true ∧ tablePremise m = true ∧ s.sr = fold s.devAddr s.sr ∧ m.sr ≠ fold m.devAddr m.sr := by
  decide

theorem witness_HandlerFollowsTheTransitionTable_txCheck :
    let n := inTransaction 14#4 1#3 0x25#8 false
    let a := inTransaction 14#4 1#3 0x24#8 false
    let e := inTransaction 14#4 2#3 0x68#8 false
    tablePremise n = true ∧ n.sr.getLsbD 0 = true ∧
      tablePremise a = true ∧ a.sr.getLsbD 0 = false ∧ a.dataIdx.toNat < a.bufLen.n ∧
      tablePremise e = true ∧ e.sr.getLsbD 0 = false ∧ e.dataIdx.toNat = e.bufLen.n := by decide

theorem witness_HandlerExitClearsTheCompletionFlag :
    isHandlerAction .hAckNack = true ∧ (inTransaction 12#4 1#3 0x12#8 true).gie = true ∧
      nextIs (exec .hAckNack (inTransaction 12#4 1#3 0x12#8 true)) (fun _ => true) = true := by decide

theorem witness_HandlerLeavesForegroundStateAlone :
    isHandlerAction .hTxCheck = true ∧
      nextIs (exec .hTxCheck (inTransaction 14#4 1#3 0x24#8 false)) (fun _ => true) = true := by decide

theorem witness_InitializeConfiguresOnce :
    State.reset.initDone = false ∧ (0 : Nat) ≤ 127 ∧ (127 : Nat) ≤ 127 ∧ (127 : Nat) < 128 ∧
      ready.initDone = true := by decide

theorem witness_CriticalSectionSavesAndRestoresGie :
    ready.inCritical = false ∧ ({ ready with inCritical := true } : State).inCritical = true := by decide

theorem witness_Publish16IsOneAtomicStep :
    ready.bufLen = .two ∧ ready.inCritical = false ∧ ready.pendingWrites = [] := by decide

theorem witness_Publish32IsOneAtomicStep :
    ready4.bufLen = .four ∧ ready4.inCritical = false ∧ ready4.pendingWrites = [] := by decide

theorem witness_MaskedPackWritesTheWholeBuffer :
    let s := { ready with gie := false, inCritical := true }
    let u := { ready4 with gie := false, inCritical := true }
    s.inCritical = true ∧ s.pendingWrites = [] ∧ s.bufLen = .two ∧
      u.inCritical = true ∧ u.pendingWrites = [] ∧ u.bufLen = .four := by decide

theorem witness_UnmaskedPackWritesOneBytePerStep :
    State.reset.inCritical = false ∧ State.reset.pendingWrites = [] ∧ State.reset.bufLen = .two ∧
      ready4.inCritical = false ∧ ready4.pendingWrites = [] ∧ ready4.bufLen = .four := by decide

theorem witness_UnmaskedPackWritesOneBytePerStep_more :
    let u := { ready with turns := [.producer], pendingWrites := [(1, 0xCD#8)] }
    u.turns = .producer :: [] ∧ u.pendingWrites = (1, 0xCD#8) :: [] ∧ 1 < u.bufLen.n := by decide

theorem witness_WrongWidthIsRefused : ready4.bufLen = .four ∧ ready.bufLen = .two := by decide

theorem witness_PublishInsideACriticalSectionIsRefused :
    ({ ready with inCritical := true } : State).inCritical = true ∧ ready.bufLen = .two ∧
      ({ ready4 with inCritical := true } : State).inCritical = true ∧ ready4.bufLen = .four := by decide

theorem witness_ProducerLeavesTheEngineAlone :
    isProducerCall .irqMask = true ∧ nextIs (exec .irqMask ready) (fun _ => true) = true ∧
      isProducerCall (.hostInit 0x24) = true ∧
      nextIs (exec (.hostInit 0x24) State.reset) (fun _ => true) = true := by decide

theorem witness_ProducerStoresOnlyWhereItWrites :
    nextIs (exec (.pack16 0xABCD#16) ready) (fun _ => true) = true ∧
      2 ∉ (ready.pendingWrites ++ packWrites (packBytes16 0xABCD#16)).map Prod.fst ∧
      nextIs (exec (.setTransmitValue32 0xDEADBEEF#32) ready4) (fun _ => true) = true ∧
      4 ∉ (ready4.pendingWrites ++ packWrites (packBytes32 0xDEADBEEF#32)).map Prod.fst ∧
      nextIs (exec .irqRestore ready) (fun _ => true) = true := by decide

theorem witness_ForegroundCannotObserveTheEngine :
    let s' := inTransaction 12#4 1#3 0x12#8 true
    isProducerCall (.setTransmitValue16 0xABCD#16) = true ∧ s'.bufLen = ready.bufLen ∧ s'.txbuf = ready.txbuf ∧
      s'.gie = ready.gie ∧ s'.gieSaved = ready.gieSaved ∧ s'.inCritical = ready.inCritical ∧
      s'.initDone = ready.initDone ∧ s'.pendingWrites = ready.pendingWrites ∧ s'.unpacked = ready.unpacked ∧
      nextIs (exec (.setTransmitValue16 0xABCD#16) ready) (fun _ => true) = true ∧
      refuses (exec (.setTransmitValue32 1#32) ready) .widthMismatch = true ∧
      faults (exec (.pack16 0#16) { ready with pendingWrites := [(2, 0#8)] }) .bufferIndexOutOfRange = true := by
  decide

theorem witness_ClockShiftsOneBit_armed :
    let s := { ready with oe := true, sr := 0x80#8, cnt := 1#4 }
    s.sttifg = false ∧ s.ifg = false ∧ true = ((if s.oe then s.sr.getLsbD 7 else true) && true) ∧ s.cnt ≠ 0#4 := by
  decide

theorem witness_ClockShiftsOneBit_unarmed :
    ready.sttifg = false ∧ ready.ifg = false ∧
      true = ((if ready.oe then ready.sr.getLsbD 7 else true) && true) ∧ ready.cnt = 0#4 := by decide

theorem witness_PendingFlagHoldsTheClock :
    ({ ready with sttifg := true } : State).sttifg = true ∧ (completed 4#4).ifg = true := by decide

theorem witness_EnvironmentNeverClearsAFlag :
    isBusEvent (.envClock true) = true ∧
      nextIs (exec (.envClock true) { ready with cnt := 1#4 }) (fun _ => true) = true ∧
      ({ ready with sttifg := true } : State).sttifg = true ∧ (completed 0#4).ifg = true := by decide

theorem witness_ArmedGroupShiftsItsBits :
    let s := { ready with cnt := 8#4 }
    let u := { ready with cnt := 1#4, oe := true }
    s.sttifg = false ∧ s.ifg = false ∧ s.cnt = 8#4 ∧ s.oe = false ∧
      u.sttifg = false ∧ u.ifg = false ∧ u.cnt = 1#4 ∧ u.oe = true := by decide

theorem witness_ArmedGroupShiftsItsBits_crossed :
    let s := { ready with cnt := 1#4 }
    let u := { ready with cnt := 8#4, oe := true }
    s.sttifg = false ∧ s.ifg = false ∧ s.cnt = 1#4 ∧ s.oe = false ∧
      u.sttifg = false ∧ u.ifg = false ∧ u.cnt = 8#4 ∧ u.oe = true := by decide

theorem witness_DrivenAddressPhaseReceivesTheAnd :
    let s := { ready with cnt := 8#4, oe := true, sr := 0xA1#8 }
    s.sttifg = false ∧ s.ifg = false ∧ s.cnt = 8#4 ∧ s.oe = true := by decide

/-- A state in the invariant from which a step loads the next byte. -/
theorem witness_StepKeepsTheInvariant :
    Inv (inTransaction 14#4 1#3 0x25#8 false) ∧
      nextIs (step (inTransaction 14#4 1#3 0x25#8 false)) (fun t => decide (t.state = 0#4)) = true :=
  ⟨txCheck_nack_inv, by decide⟩

theorem witness_NoStepFaultsUnderTheInvariant : Inv (inTransaction 14#4 2#3 0x68#8 false) := txCheck_exhausted_inv

theorem witness_ReservedStatesAreNeverDispatched : Inv { completed 4#4 with sr := 0x4B#8 } := processAddress_inv

theorem witness_RunsUnderTheInvariantAreSafe : Inv ready := ready_inv

theorem witness_TransactionEndsAsLabelled_addrMismatch :
    let s := { completed 4#4 with sr := 0x4B#8 }
    Inv s ∧ s.handlerEnabled = true ∧ s.transactionEnd = some .addrMismatch :=
  ⟨processAddress_inv, by decide, by decide⟩

theorem witness_TransactionEndsAsLabelled_earlyNack :
    let s := inTransaction 14#4 1#3 0x25#8 false
    Inv s ∧ s.handlerEnabled = true ∧ s.transactionEnd = some .earlyNack :=
  ⟨txCheck_nack_inv, by decide, by decide⟩

theorem witness_TransactionEndsAsLabelled_complete :
    let s := inTransaction 14#4 2#3 0x68#8 false
    Inv s ∧ s.handlerEnabled = true ∧ s.transactionEnd = some .complete :=
  ⟨txCheck_exhausted_inv, by decide, by decide⟩

theorem witness_TransactionEndsAsLabelled_preempted :
    let s := { inTransaction 14#4 1#3 0x24#8 false with sttifg := true }
    Inv s ∧ s.handlerEnabled = true ∧ s.transactionEnd = some .preempted :=
  ⟨preempted_inv, by decide, by decide⟩

theorem witness_TransactionEndsAsLabelled_none :
    let s := inTransaction 6#4 0#3 0xFF#8 true
    Inv s ∧ s.handlerEnabled = true ∧ s.transactionEnd = none ∧ s.state ≠ 0#4 ∧
      nextIs (invokeHandler s) (fun t => decide (t.state = 0#4)) = true :=
  ⟨rxCheck_inv, by decide, by decide, by decide, by decide⟩

theorem witness_ConfigurationIsFixedAfterInitialize :
    nextIs (step (completed 0#4)) (fun _ => true) = true ∧ (completed 0#4).initDone = true := by decide

theorem witness_StartPreemptsFromEveryState :
    (inTransaction 12#4 1#3 0xA1#8 true).gie = true ∧ (inTransaction 12#4 1#3 0xA1#8 true).sttie = true := by decide

theorem witness_OwnAddressIsAcknowledged :
    ready.Ready ∧ ready.gie = true ∧ ready.sttie = true ∧ ready.ie = true :=
  ⟨ready_is_ready, by decide, by decide, by decide⟩

theorem witness_ForeignAddressIsRefusedAndForgotten :
    ready.Ready ∧ ready.gie = true ∧ ready.sttie = true ∧ ready.ie = true ∧
      (0x4B#8).extractLsb' 1 7 ≠ ready.ownAddr :=
  ⟨ready_is_ready, by decide, by decide, by decide, by decide⟩

theorem witness_QueuedScriptRunsAsWritten :
    ready.turns = [] ∧ ready.hostCalls = [] ∧ ready.busEvents = [] ∧
      scriptWellFormed [.set16 0x1234#16, .start, .irq, .clk true, .stop, .mask, .restore] ready = true := by decide

theorem witness_ReadScriptIsWellFormed :
    ready4.Ready ∧ ready4.gie = true ∧ ready4.sttie = true ∧ ready4.ie = true ∧ 1 ≤ 1 ∧ 1 ≤ ready4.bufLen.n ∧
      4 ≤ ready4.bufLen.n :=
  ⟨ready4_is_ready, by decide, by decide, by decide, by decide, by decide, by decide⟩

theorem witness_ReadDeliversTheFirstBytesInOrder :
    ready4.Ready ∧ ready4.gie = true ∧ ready4.sttie = true ∧ ready4.ie = true ∧ 1 ≤ 4 ∧ 4 ≤ ready4.bufLen.n :=
  ⟨ready4_is_ready, by decide, by decide, by decide, by decide, by decide⟩

theorem witness_PublishedValueIsReadBigEndian :
    (ready.Ready ∧ ready.gie = true ∧ ready.sttie = true ∧ ready.ie = true ∧ ready.inCritical = false ∧
      ready.pendingWrites = [] ∧ ready.bufLen = .two) ∧
    (ready4.Ready ∧ ready4.gie = true ∧ ready4.sttie = true ∧ ready4.ie = true ∧ ready4.inCritical = false ∧
      ready4.pendingWrites = [] ∧ ready4.bufLen = .four) :=
  ⟨⟨ready_is_ready, by decide⟩, ⟨ready4_is_ready, by decide⟩⟩

theorem witness_ExhaustedBufferEndsTheTransaction :
    ready4.Ready ∧ ready4.gie = true ∧ ready4.sttie = true ∧ ready4.ie = true :=
  ⟨ready4_is_ready, by decide, by decide, by decide⟩

theorem witness_UnprotectedPackIsReadTorn :
    (ready.Ready ∧ ready.gie = true ∧ ready.sttie = true ∧ ready.ie = true ∧ ready.inCritical = false ∧
      ready.pendingWrites = [] ∧ ready.bufLen = .two) ∧
    (ready4.Ready ∧ ready4.gie = true ∧ ready4.sttie = true ∧ ready4.ie = true ∧ ready4.inCritical = false ∧
      ready4.pendingWrites = [] ∧ ready4.bufLen = .four ∧ 0 < 3 ∧ 2 < 3) :=
  ⟨⟨ready_is_ready, by decide⟩, ⟨ready4_is_ready, by decide⟩⟩

end Sys2Proof.Tests
end

section
/-! How a prescribed turn becomes an instruction (00_scope R6, 30_encoding R46, 20_memory R39), and O7 from it. -/

namespace Sys2Proof.Machine

theorem step_of_fetch_ok {s t : State} {i : Instr} (h : fetch s = .ok (i, t)) : step s = exec i t := by
  rw [step, h]

theorem fetch_of_turns_cons {s : State} {a : Agent} {ts : List Agent} (h : s.turns = a :: ts) :
    fetch s = fetchFor a { s with turns := ts } := by
  rw [fetch, h]

/-- A prescribed turn whose agent fetches an instruction runs that instruction. -/
theorem step_of_turn {s t : State} {a : Agent} {ts : List Agent} {i : Instr} (hturns : s.turns = a :: ts)
    (hfetch : fetchFor a { s with turns := ts } = .ok (i, t)) : step s = exec i t :=
  step_of_fetch_ok ((fetch_of_turns_cons hturns).trans hfetch)

theorem fetchFor_handler (s : State) : fetchFor .handler s = .ok (decodeDispatch s.dispatchKey, s) := rfl

theorem fetchFor_producer_of_decode {s : State} {w : HostWord} {ws : List HostWord} {i : Instr}
    (hpending : s.pendingWrites = []) (hcalls : s.hostCalls = w :: ws) (hdecode : decode (.host w) = .ok i) :
    fetchFor .producer s = .ok (i, { s with hostCalls := ws }) := by
  rw [decode] at hdecode
  simp only [fetchFor, fetchProducer, hpending, hcalls, hdecode]

theorem fetchFor_environment_of_decode {s : State} {e : EnvWord} {es : List EnvWord} {i : Instr}
    (hevents : s.busEvents = e :: es) (hdecode : decode (.env e) = .ok i) :
    fetchFor .environment s = .ok (i, { s with busEvents := es }) := by
  rw [decode] at hdecode
  simp only [fetchFor, fetchEnvironment, hevents, hdecode]

/-- Settles O7: each clause is the agent's fetch rule in its prescribed turn. -/
theorem stepRunsTheDecodedInstruction : Obligations.StepRunsTheDecodedInstruction := by
  intro s ts
  refine ⟨fun hturns => ?handler, fun w ws i hturns hpending hcalls hdecode => ?producer,
    fun e es i hturns hevents hdecode => ?environment⟩
  case handler => exact step_of_turn hturns (fetchFor_handler _)
  case producer => exact step_of_turn hturns (fetchFor_producer_of_decode hpending hcalls hdecode)
  case environment => exact step_of_turn hturns (fetchFor_environment_of_decode hevents hdecode)

end Sys2Proof.Machine
end

section
/-! What the turn of each agent can do when it answers a next state: one relation per agent, read off `exec` once
(00_scope R6, 40_dispatch R60, 43_codec_host, 44_environment). -/

namespace Sys2Proof.Machine

/-! ### The handler -/

/-- `HandlerEffect s i u`: the action of the handler operation `i`, run in `s`, ends in `u`; the exit of the
invocation, which clears `IFG`, is still to come. -/
inductive HandlerEffect (s : State) : Instr → State → Prop
  | start (cccc : StateCode) : HandlerEffect s (.hStart cccc) (addressAction s)
  | idle : HandlerEffect s .hIdle s
  | address : HandlerEffect s .hAddress (addressAction s)
  | addressMatch (h : s.sr = fold s.devAddr s.sr) : HandlerEffect s .hProcessAddress
      { s with devAddr := fold s.devAddr s.sr, oe := true, sr := 0x00#8, state := StateCode.txData, cnt := 1#4 }
  | addressMismatch (h : s.sr ≠ fold s.devAddr s.sr) : HandlerEffect s .hProcessAddress
      { s with devAddr := fold s.devAddr s.sr, oe := true, sr := 0xFF#8, state := StateCode.rxCheck, cnt := 1#4 }
  | rxCheck : HandlerEffect s .hRxCheck { prepStart s with state := StateCode.idle }
  | txData (h : s.dataIdx.toNat < s.bufLen.n) :
      HandlerEffect s .hTxData (loadByte (s.bufByte s.dataIdx.toNat) s)
  | ackNack : HandlerEffect s .hAckNack { arm .one { s with oe := false } with state := StateCode.txCheck }
  | txEnd (h : nackBit s.sr = true ∨ s.bufLen.n ≤ s.dataIdx.toNat) :
      HandlerEffect s .hTxCheck (endTransaction s)
  | txNext (hack : nackBit s.sr = false) (h : s.dataIdx.toNat < s.bufLen.n) :
      HandlerEffect s .hTxCheck (loadByte (s.bufByte s.dataIdx.toNat) s)

theorem processAddress_effect (s : State) : HandlerEffect s .hProcessAddress (processAddress s) := by
  by_cases h : s.sr = fold s.devAddr s.sr
  · exact processAddress_match h ▸ .addressMatch h
  · exact processAddress_mismatch h ▸ .addressMismatch h

theorem noAction_ne_next (why : Refusal) (s t : State) : noAction why s ≠ .next t := by
  unfold noAction
  split <;> exact nofun

/-- An invocation whose action has the effect of `i` had that effect, or was masked and waits. -/
theorem takeInterrupt_effect {i : Instr} {action : State → Result} {s t : State}
    (heffect : ∀ u, action s = .next u → HandlerEffect s i u) (h : takeInterrupt action s = .next t) :
    s.irq = true ∧
      ((s.gie = true ∧ ∃ u, HandlerEffect s i u ∧ t = leaveHandler u) ∨ (s.gie = false ∧ t = s)) := by
  obtain ⟨hirq, ⟨hgie, u, hu, ht⟩ | hmasked⟩ := takeInterrupt_cases h
  · exact ⟨hirq, .inl ⟨hgie, u, heffect u hu, ht⟩⟩
  · exact ⟨hirq, .inr hmasked⟩

/-- A handler operation that answers a next state was taken, with its effect and the exit of 40_dispatch R62, or was
masked and changed nothing (60_exceptions R126). -/
theorem exec_handler_cases {i : Instr} {s t : State} (hi : isHandlerAction i = true) (h : exec i s = .next t) :
    s.irq = true ∧
      ((s.gie = true ∧ ∃ u, HandlerEffect s i u ∧ t = leaveHandler u) ∨ (s.gie = false ∧ t = s)) := by
  cases i with
  | hStart cccc =>
    rw [exec_hStart] at h
    refine takeInterrupt_effect (fun u hu => ?_) h
    cases hu
    rw [addressAction_startOverride]
    exact .start cccc
  | hIdle =>
    rw [exec_hIdle] at h
    exact takeInterrupt_effect (fun u hu => by cases hu; exact .idle) h
  | hAddress =>
    rw [exec_hAddress] at h
    exact takeInterrupt_effect (fun u hu => by cases hu; exact .address) h
  | hProcessAddress =>
    rw [exec_hProcessAddress] at h
    exact takeInterrupt_effect (fun u hu => by cases hu; exact processAddress_effect s) h
  | hRxCheck =>
    rw [exec_hRxCheck] at h
    exact takeInterrupt_effect (fun u hu => by cases hu; exact .rxCheck) h
  | hRxData => exact absurd h (noAction_ne_next _ _ _)
  | hTxData =>
    rw [exec_hTxData] at h
    refine takeInterrupt_effect (fun u hu => ?_) h
    obtain ⟨hin, rfl⟩ := txNext_cases hu
    exact .txData hin
  | hAckNack =>
    rw [exec_hAckNack] at h
    exact takeInterrupt_effect (fun u hu => by cases hu; exact .ackNack) h
  | hTxCheck =>
    rw [exec_hTxCheck] at h
    refine takeInterrupt_effect (fun u hu => ?_) h
    obtain ⟨hend, rfl⟩ | ⟨hack, hin, rfl⟩ := txCheck_cases hu
    · exact .txEnd hend
    · exact .txNext hack hin
  | hIllegal xxx => exact absurd h (noAction_ne_next _ _ _)
  | _ => nomatch hi

/-- The protocol state whose action an operation is; none for the start override, which serves every state. -/
def servedState : Instr → Option StateCode
  | .hIdle => some StateCode.idle
  | .hAddress => some StateCode.address
  | .hProcessAddress => some StateCode.processAddress
  | .hRxCheck => some StateCode.rxCheck
  | .hTxData => some StateCode.txData
  | .hAckNack => some StateCode.ackNack
  | .hTxCheck => some StateCode.txCheck
  | _ => none

/-- The dispatch key `{STTIFG, STATE}` selects a state's action in that state only, with no start pending
(30_encoding R46, R47). -/
theorem flag_and_state_of_dispatched {s : State} {c : StateCode}
    (h : servedState (decodeDispatch s.dispatchKey) = some c) : s.sttifg = false ∧ s.state = c := by
  have hkeys : ∀ (f : Bool) (st c : StateCode),
      servedState (decodeDispatch (BitVec.ofBool f ++ st)) = some c → f = false ∧ st = c := by decide
  exact hkeys _ _ _ h

/-! ### The producer -/

/-- `s` after the one-time set-up with the address `a` (43_codec_host R98). -/
def configuredFor (a : BitVec 7) (s : State) : State :=
  { s with
    ownAddr := a, devAddr := canonOf a, cfg := configuredCfg, sttie := true, ie := true, dataIdx := 0#3
    oe := false, cnt := 0#4, sttifg := false, ifg := false, gie := true, initDone := true }

/-- `ProducerEffect s t`: a call of the producer, made in `s`, ends in `t`. -/
inductive ProducerEffect (s : State) : State → Prop
  | setUp (a : Nat) (hfirst : s.initDone = false) (ha : a ≤ 127) :
      ProducerEffect s (configuredFor (BitVec.ofNat 7 a) s)
  | publish (bytes : List Byte) {t : State} (h : publish bytes s = .next t) : ProducerEffect s t
  | pack (bytes : List Byte) {t : State} (h : packBytes bytes s = .next t) : ProducerEffect s t
  | unpack (v : HostValue) : ProducerEffect s { s with unpacked := some v }
  | mask (h : s.inCritical = false) : ProducerEffect s (enterCritical s)
  | restore : ProducerEffect s (leaveCritical s)

theorem hostInit_effect {a : Nat} {s t : State} (h : execHostInit a s = .next t) : ProducerEffect s t := by
  unfold execHostInit at h
  split at h
  · cases h
  next hfirst =>
    split at h
    · cases h
    next ha =>
      cases h
      exact .setUp a (by simpa using hfirst) (by omega)

theorem maskInterrupts_cases {s t : State} (h : maskInterrupts s = .next t) :
    s.inCritical = false ∧ t = enterCritical s := by
  unfold maskInterrupts at h
  split at h
  · cases h
  next hc =>
    cases h
    exact ⟨by simpa using hc, rfl⟩

/-- What a call of the producer that answers a next state did. -/
theorem exec_producer_cases {i : Instr} {s t : State} (hi : isProducerCall i = true) (h : exec i s = .next t) :
    ProducerEffect s t := by
  cases i with
  | hostInit a => exact hostInit_effect h
  | setTransmitValue16 v => exact .publish (packBytes16 v) h
  | setTransmitValue32 v => exact .publish (packBytes32 v) h
  | pack16 v => exact .pack (packBytes16 v) h
  | pack32 v => exact .pack (packBytes32 v) h
  | unpack16 b0 b1 => cases h; exact .unpack _
  | unpack32 b0 b1 b2 b3 => cases h; exact .unpack _
  | irqMask =>
    obtain ⟨hc, rfl⟩ := maskInterrupts_cases h
    exact .mask hc
  | irqRestore => cases h; exact .restore
  | _ => nomatch hi

/-! ### The environment -/

/-- `BusEffect s t`: a bus event, happening in `s`, ends in `t`. -/
inductive BusEffect (s : State) : State → Prop
  | start : BusEffect s (traceWire .start (setStartFlag s))
  | held (e : EnvWord) (h : s.clockHeld = true) : BusEffect s (holdEvent e s)
  | traced (e : WireEntry) : BusEffect s (traceWire e s)
  | shifted (e : WireEntry) (line : Bool) (hfree : s.clockHeld = false) (harmed : s.cnt ≠ 0#4) :
      BusEffect s (traceWire e (shiftBit line s))

theorem envClock_effect {m : Bool} {s t : State} (h : execEnvClock m s = .next t) : BusEffect s t := by
  unfold execEnvClock at h
  split at h
  next hheld => cases h; exact .held _ hheld
  next hfree =>
    split at h
    · cases h; exact .traced _
    next harmed => cases h; exact .shifted _ _ (by simpa using hfree) harmed

/-- What a bus event that answers a next state did. -/
theorem exec_bus_cases {i : Instr} {s t : State} (hi : isBusEvent i = true) (h : exec i s = .next t) :
    BusEffect s t := by
  cases i with
  | envStart x => cases h; exact .start
  | envClock m => exact envClock_effect h
  | envStop x => cases h; exact .traced .stop
  | _ => nomatch hi

end Sys2Proof.Machine
end

section
/-! What each agent leaves alone: the handler's frame, the fixed configuration, and the parts of the state that the
three invariants read. O22 and O49. -/

namespace Sys2Proof.Machine

/-! ### The handler's frame -/

/-- `s` with the eight fields of `t` that the handler may write. -/
def State.withEngineOf (s t : State) : State :=
  { s with
    state := t.state, devAddr := t.devAddr, dataIdx := t.dataIdx, sr := t.sr, sttifg := t.sttifg, ifg := t.ifg
    cnt := t.cnt, oe := t.oe }

theorem HandlerEffect.frame {s u : State} {i : Instr} (h : HandlerEffect s i u) :
    leaveHandler u = s.withEngineOf (leaveHandler u) := by
  cases h <;> rfl

theorem exec_handler_frame {i : Instr} {s t : State} (hi : isHandlerAction i = true) (h : exec i s = .next t) :
    t = s.withEngineOf t := by
  obtain ⟨-, ⟨-, u, hu, rfl⟩ | ⟨-, rfl⟩⟩ := exec_handler_cases hi h
  · exact hu.frame
  · rfl

/-- Settles O22: a handler operation's effect, and a masked invocation, keep every field but the engine's eight, the
buffer among them. -/
theorem handlerLeavesForegroundStateAlone : Obligations.HandlerLeavesForegroundStateAlone := by
  intro i s t hi h
  have hframe : t = s.withEngineOf t := exec_handler_frame hi h
  have hbuf : t.txbuf = s.txbuf := (congrArg State.txbuf hframe).trans rfl
  exact ⟨fun a => by rw [hbuf], hframe⟩

/-! ### What the invariants read -/

/-- The fields that the invariant of the engine reads. -/
def State.engineView (s : State) : StateCode × Byte × BitVec 3 × BitVec 7 × BufLen × Bool × BitVec 4 × Bool :=
  (s.state, s.devAddr, s.dataIdx, s.ownAddr, s.bufLen, s.ifg, s.cnt, s.oe)

/-- The fields that the invariant of the buffer reads. -/
def State.bufferView (s : State) : BufLen × Memory × List (Nat × Byte) :=
  (s.bufLen, s.txbuf, s.pendingWrites)

/-- The build length and what the one-time set-up fixes. -/
def State.configView (s : State) : BufLen × Bool × BitVec 7 × Cfg × Bool × Bool :=
  (s.bufLen, s.initDone, s.ownAddr, s.cfg, s.sttie, s.ie)

/-- A codec write changes the buffer and the writes to come only. -/
theorem packBytes_frame {bytes : List Byte} {s t : State} (h : packBytes bytes s = .next t) :
    t = { s with txbuf := t.txbuf, pendingWrites := t.pendingWrites } := by
  obtain ⟨-, hs⟩ := packBytes_cases h
  obtain ⟨m, p, rfl, -⟩ := startWrites_cases hs
  rfl

/-- A publish changes the buffer, the writes to come and `GIE_SAVED`, to the value of `GIE`, only. -/
theorem publish_frame {bytes : List Byte} {s t : State} (h : publish bytes s = .next t) :
    t = { s with txbuf := t.txbuf, pendingWrites := t.pendingWrites, gieSaved := s.gie } := by
  obtain ⟨-, -, m, rfl, -⟩ := publish_cases h
  rfl

/-- The next byte write changes the buffer and the writes to come only. -/
theorem writeNext_frame {s t : State} (h : writeNext s = .next t) :
    t = { s with txbuf := t.txbuf, pendingWrites := t.pendingWrites } := by
  obtain ⟨-, rfl⟩ | ⟨w, rest, -, -, rfl⟩ := writeNext_cases h <;> rfl

theorem shiftBit_configView (line : Bool) (s : State) : (shiftBit line s).configView = s.configView := by
  simp [State.configView]

theorem shiftBit_bufferView (line : Bool) (s : State) : (shiftBit line s).bufferView = s.bufferView := by
  simp [State.bufferView]

theorem exec_handler_configView {i : Instr} {s t : State} (hi : isHandlerAction i = true)
    (h : exec i s = .next t) : t.configView = s.configView :=
  (congrArg State.configView (exec_handler_frame hi h)).trans rfl

/-- No call of the producer but the one-time set-up, which is refused a second time, changes the configuration. -/
theorem ProducerEffect.configView {s t : State} (h : ProducerEffect s t) :
    s.initDone = false ∧ t.bufLen = s.bufLen ∨ t.configView = s.configView := by
  cases h with
  | setUp a hfirst ha => exact .inl ⟨hfirst, rfl⟩
  | publish bytes h => exact .inr ((congrArg State.configView (publish_frame h)).trans rfl)
  | pack bytes h => exact .inr ((congrArg State.configView (packBytes_frame h)).trans rfl)
  | unpack v => exact .inr rfl
  | mask hc => exact .inr rfl
  | restore => exact .inr rfl

theorem BusEffect.configView {s t : State} (h : BusEffect s t) : t.configView = s.configView := by
  cases h with
  | start => rfl
  | held e hheld => rfl
  | traced e => rfl
  | shifted e line hfree harmed => exact shiftBit_configView line s

theorem writeNext_configView {s t : State} (h : writeNext s = .next t) : t.configView = s.configView :=
  (congrArg State.configView (writeNext_frame h)).trans rfl

/-- A step changes no part of the configuration, or is the one-time set-up, which keeps `N`. -/
theorem step_configView {s t : State} (h : step s = .next t) :
    s.initDone = false ∧ t.bufLen = s.bufLen ∨ t.configView = s.configView := by
  obtain ⟨hc, be, ts, hu⟩ := step_cases s
  rcases hu with hu | ⟨i, hi, -, hu⟩ | ⟨i, hi, hu⟩ | hu | hu | ⟨e, hu⟩ <;> rw [hu] at h
  · exact .inr ((exec_handler_configView (decodeDispatch_isHandlerAction _) h).trans rfl)
  · exact (exec_producer_cases hi h).configView
  · exact .inr (exec_bus_cases hi h).configView
  · exact .inr ((writeNext_configView h).trans rfl)
  · cases h
    exact .inr rfl
  · cases h

/-- Settles O49: a step that is not the one-time set-up keeps the whole configuration, and that one happens only
while `INIT_DONE` is false. -/
theorem configurationIsFixedAfterInitialize : Obligations.ConfigurationIsFixedAfterInitialize := by
  intro s t h
  rcases step_configView h with ⟨hfirst, hlen⟩ | hview
  · exact ⟨hlen, fun hdone => by simp [hfirst] at hdone⟩
  · simp only [State.configView, Prod.mk.injEq] at hview
    obtain ⟨hlen, hdone, hown, hcfg, hsttie, hie⟩ := hview
    exact ⟨hlen, fun h => ⟨hdone.trans h, hown, hcfg, hsttie, hie⟩⟩

end Sys2Proof.Machine
end

section
/-! The three parts of the invariant, kept by each agent (10_state R26 to R29). O44 and O43. -/

namespace Sys2Proof.Machine

/-! ### Where the invariant of the engine holds, by protocol state -/

theorem State.Ready.of_engineView {s t : State} (h : s.Ready) (hv : t.engineView = s.engineView) : t.Ready := by
  simp only [State.engineView, Prod.mk.injEq] at hv
  obtain ⟨hstate, hdev, hidx, hown, -, -, -, hoe⟩ := hv
  obtain ⟨idle, cursor, device, released⟩ := h
  exact ⟨hstate.trans idle, hidx.trans cursor, by rw [hdev, device, State.canon, State.canon, hown],
    hoe.trans released⟩

/-- The invariant of the engine depends on the fields of `engineView` only. -/
theorem EngineInv.of_engineView {s t : State} (h : EngineInv s) (hv : t.engineView = s.engineView) :
    EngineInv t := by
  have hready : s.Ready → t.Ready := fun hr => hr.of_engineView hv
  simp only [State.engineView, Prod.mk.injEq] at hv
  obtain ⟨hstate, hdev, hidx, hown, hlen, hifg, hcnt, hoe⟩ := hv
  have hcanon : t.canon = s.canon := by rw [State.canon, State.canon, hown]
  obtain ⟨cursor, count, resting, device, unfolded, cursorZero, cursorMoved, ready, unarmed, driving, listening,
    completed, live⟩ := h
  constructor <;> simp only [hstate, hdev, hidx, hlen, hifg, hcnt, hoe, hcanon]
  case ready => exact fun hi => hready (ready hi)
  all_goals assumption

/-- A ready engine with nothing armed. -/
theorem engineInv_of_ready {s : State} (h : s.Ready) (hcnt : s.cnt = 0#4) : EngineInv s := by
  obtain ⟨hstate, hidx, hdev, hoe⟩ := h
  constructor
  case ready => exact fun _ => ⟨hstate, hidx, hdev, hoe⟩
  all_goals simp [hstate, hidx, hdev, hcnt, restingStates]

/-- Bits are armed and their completion is still to come: so the handler leaves a transaction in progress. -/
structure State.Armed (s : State) : Prop where
  pending : s.cnt ≠ 0#4
  bounded : s.cnt.toNat ≤ 8
  noCompletion : s.ifg = false

/-- Waiting for the address byte, with the canonical address and the cursor at 0. -/
theorem engineInv_of_processAddress {s : State} (hstate : s.state = StateCode.processAddress) (harm : s.Armed)
    (hidx : s.dataIdx = 0#3) (hdev : s.devAddr = s.canon) : EngineInv s := by
  obtain ⟨hcnt, hle, hifg⟩ := harm
  constructor <;> simp [hstate, hidx, hdev, hcnt, hle, hifg, restingStates]

/-- Answering the address byte, with either bit. -/
theorem engineInv_of_answering {s : State} (hstate : s.state = StateCode.txData ∨ s.state = StateCode.rxCheck)
    (harm : s.Armed) (hidx : s.dataIdx = 0#3) (hdev : s.devAddr = s.canon ∨ s.devAddr = s.canon + 1)
    (hoe : s.oe = true) : EngineInv s := by
  obtain ⟨hcnt, hle, hifg⟩ := harm
  constructor
  case device => exact hdev
  all_goals rcases hstate with hstate | hstate <;> simp [hstate, hidx, hcnt, hle, hifg, hoe, restingStates]

/-- Sending a data byte, the cursor past it. -/
theorem engineInv_of_ackNack {s : State} (hstate : s.state = StateCode.ackNack) (harm : s.Armed)
    (hidx : s.dataIdx ≠ 0#3) (hlen : s.dataIdx.toNat ≤ s.bufLen.n)
    (hdev : s.devAddr = s.canon ∨ s.devAddr = s.canon + 1) (hoe : s.oe = true) : EngineInv s := by
  obtain ⟨hcnt, hle, hifg⟩ := harm
  constructor
  case device => exact hdev
  all_goals simp [hstate, hidx, hlen, hcnt, hle, hifg, hoe, restingStates]

/-- Listening for the master's acknowledge. -/
theorem engineInv_of_txCheck {s : State} (hstate : s.state = StateCode.txCheck) (harm : s.Armed)
    (hidx : s.dataIdx ≠ 0#3) (hlen : s.dataIdx.toNat ≤ s.bufLen.n)
    (hdev : s.devAddr = s.canon ∨ s.devAddr = s.canon + 1) (hoe : s.oe = false) : EngineInv s := by
  obtain ⟨hcnt, hle, hifg⟩ := harm
  constructor
  case device => exact hdev
  all_goals simp [hstate, hidx, hlen, hcnt, hle, hifg, hoe, restingStates]

/-! ### The handler keeps the invariant of the engine -/

theorem armed_one {s : State} (hcnt : s.cnt = 1#4) (hifg : s.ifg = false) : s.Armed := by
  constructor <;> simp [hcnt, hifg]

theorem armed_eight {s : State} (hcnt : s.cnt = 8#4) (hifg : s.ifg = false) : s.Armed := by
  constructor <;> simp [hcnt, hifg]

/-- Without a start pending it is the completion flag that requests the interrupt. -/
theorem ifg_of_irq {s : State} (hirq : s.irq = true) (hstart : s.sttifg = false) : s.ifg = true := by
  simp only [State.irq, hstart, Bool.false_and, Bool.false_or, Bool.and_eq_true] at hirq
  exact hirq.1

theorem fold_eq_or (d b : Byte) : fold d b = d ∨ fold d b = d + 1 := by
  unfold fold
  split
  · exact .inr rfl
  · exact .inl rfl

theorem BufLen.n_le_four (l : BufLen) : l.n ≤ 4 := by
  cases l <;> decide

/-- The cursor after a byte load: it has moved and still lies within the buffer. -/
theorem cursor_add_one {l : BufLen} {d : BitVec 3} (h : d.toNat < l.n) : d + 1 ≠ 0#3 ∧ (d + 1).toNat ≤ l.n := by
  have hn := l.n_le_four
  exact ⟨by bv_omega, by bv_omega⟩

theorem engineInv_addressAction (s : State) : EngineInv (leaveHandler (addressAction s)) :=
  engineInv_of_processAddress rfl (armed_eight rfl rfl) rfl rfl

theorem engineInv_loadByte {s : State} (h : EngineInv s) (b : Byte) (hin : s.dataIdx.toNat < s.bufLen.n) :
    EngineInv (leaveHandler (loadByte b s)) :=
  engineInv_of_ackNack rfl (armed_eight rfl rfl) (cursor_add_one hin).1 (cursor_add_one hin).2 h.device rfl

/-- Whichever bit answers the address byte, the engine drives it and folds the canonical address at most once. -/
theorem engineInv_answer {s : State} (h : EngineInv s) (hstate : s.state = StateCode.processAddress) (sr : Byte)
    {st : StateCode} (hst : st = StateCode.txData ∨ st = StateCode.rxCheck) :
    EngineInv (leaveHandler
      { s with devAddr := fold s.devAddr s.sr, oe := true, sr := sr, state := st, cnt := 1#4 }) := by
  refine engineInv_of_answering hst (armed_one rfl rfl) (h.cursorZero (.inl hstate)) ?device rfl
  case device =>
    have hcanon : s.devAddr = s.canon := h.unfolded hstate
    exact hcanon ▸ fold_eq_or s.devAddr s.sr

/-- The effect that the dispatch key selects, with the exit of the invocation, keeps the invariant of the engine. -/
theorem HandlerEffect.keeps_engineInv {s u : State} {i : Instr} (heffect : HandlerEffect s i u)
    (hi : decodeDispatch s.dispatchKey = i) (hirq : s.irq = true) (h : EngineInv s) :
    EngineInv (leaveHandler u) := by
  have hserved : ∀ c, servedState i = some c → s.state = c ∧ s.cnt = 0#4 := fun c hc => by
    obtain ⟨hstart, hstate⟩ := flag_and_state_of_dispatched (hi ▸ hc)
    exact ⟨hstate, h.completed (ifg_of_irq hirq hstart)⟩
  cases heffect with
  | start cccc => exact engineInv_addressAction s
  | idle =>
    obtain ⟨hstate, hcnt⟩ := hserved _ rfl
    obtain ⟨idle, cursor, device, released⟩ := h.ready hstate
    exact engineInv_of_ready ⟨idle, cursor, device, released⟩ hcnt
  | address => exact engineInv_addressAction s
  | addressMatch hmatch => exact engineInv_answer h (hserved _ rfl).1 _ (.inl rfl)
  | addressMismatch hmismatch => exact engineInv_answer h (hserved _ rfl).1 _ (.inr rfl)
  | rxCheck =>
    obtain ⟨hstate, hcnt⟩ := hserved _ rfl
    exact engineInv_of_ready ⟨rfl, h.cursorZero (.inr (.inl hstate)), rfl, rfl⟩ hcnt
  | txData hin => exact engineInv_loadByte h _ hin
  | ackNack =>
    obtain ⟨hstate, -⟩ := hserved _ rfl
    exact engineInv_of_txCheck rfl (armed_one rfl rfl) (h.cursorMoved (.inl hstate)) h.cursor h.device rfl
  | txEnd hend =>
    obtain ⟨-, hcnt⟩ := hserved _ rfl
    exact engineInv_of_ready ⟨rfl, rfl, rfl, rfl⟩ hcnt
  | txNext hack hin => exact engineInv_loadByte h _ hin

/-! ### The buffer and the set-up -/

theorem BufferInv.of_bufferView {s t : State} (h : BufferInv s) (hv : t.bufferView = s.bufferView) :
    BufferInv t := by
  simp only [State.bufferView, Prod.mk.injEq] at hv
  obtain ⟨hlen, htx, hpend⟩ := hv
  obtain ⟨memory, inBuffer, pending⟩ := h
  exact ⟨htx ▸ memory, htx ▸ hlen ▸ inBuffer, hpend ▸ hlen ▸ pending⟩

/-- After the one-time set-up only the configuration matters. -/
theorem SetupInv.of_configView {s t : State} (h : SetupInv s) (hdone : s.initDone = true)
    (hv : t.configView = s.configView) : SetupInv t := by
  simp only [State.configView, Prod.mk.injEq] at hv
  obtain ⟨-, hdone', -, hcfg, hsttie, hie⟩ := hv
  constructor
  case configured => exact fun _ => by rw [hsttie, hie, hcfg]; exact h.configured hdone
  case dormant => exact fun hnot => by simp [hdone', hdone] at hnot

/-- Interrupts are enabled only after the one-time set-up. -/
theorem SetupInv.initDone_of_gie {s : State} (h : SetupInv s) (hgie : s.gie = true) : s.initDone = true := by
  by_contra hnot
  obtain ⟨-, hoff, -⟩ := h.dormant (by simpa using hnot)
  simp [hgie] at hoff

/-! ### Each agent keeps the invariant -/

/-- Other queues leave the invariant as it is. -/
theorem Inv.withQueues {s : State} (h : Inv s) (hc : List HostWord) (be : List EnvWord) (ts : List Agent) :
    Inv (s.withQueues hc be ts) :=
  ⟨h.buffer.of_bufferView rfl, h.engine.of_engineView rfl, ⟨h.setup.configured, h.setup.dormant⟩⟩

theorem invokeHandler_keeps_inv {s t : State} (h : Inv s) (hstep : invokeHandler s = .next t) : Inv t := by
  have hi := decodeDispatch_isHandlerAction s.dispatchKey
  have hframe := exec_handler_frame hi hstep
  obtain ⟨hirq, ⟨hgie, u, heffect, rfl⟩ | ⟨-, rfl⟩⟩ := exec_handler_cases hi hstep
  · exact {
      buffer := h.buffer.of_bufferView ((congrArg State.bufferView hframe).trans rfl)
      engine := heffect.keeps_engineInv rfl hirq h.engine
      setup := h.setup.of_configView (h.setup.initDone_of_gie hgie) ((congrArg State.configView hframe).trans rfl) }
  · exact h

theorem packBytes_keeps_bufferInv {bytes : List Byte} {s t : State} (h : BufferInv s)
    (hpack : packBytes bytes s = .next t) : BufferInv t := by
  obtain ⟨hlen, hs⟩ := packBytes_cases hpack
  obtain ⟨m, p, rfl, hp, -, hwf, hin, -⟩ := startWrites_cases hs
  refine ⟨hwf h.memory, hin h.inBuffer, fun w hw => ?pending⟩
  case pending =>
    rcases List.mem_append.mp (hp w hw) with hw | hw
    · exact h.pending w hw
    · exact (packWrites_lt hw).trans_eq hlen

theorem publish_keeps_bufferInv {bytes : List Byte} {s t : State} (h : BufferInv s)
    (hpub : publish bytes s = .next t) : BufferInv t := by
  obtain ⟨-, -, m, rfl, hwf, hin, -⟩ := publish_cases hpub
  exact ⟨hwf h.memory, hin h.inBuffer, nofun⟩

theorem writeNext_keeps_bufferInv {s t : State} (h : BufferInv s) (hw : writeNext s = .next t) : BufferInv t := by
  obtain ⟨-, rfl⟩ | ⟨w, rest, hp, hlt, rfl⟩ := writeNext_cases hw
  · exact h
  · exact ⟨Memory.write_wf _ _ _ h.memory, Memory.write_inBuffer _ hlt h.inBuffer,
      fun v hv => h.pending v (hp ▸ List.mem_cons_of_mem w hv)⟩

/-- The one-time set-up of an idle engine leaves it ready, unarmed and configured (10_state R24). -/
theorem configuredFor_keeps_inv {s : State} (h : Inv s) (hfirst : s.initDone = false) (a : BitVec 7) :
    Inv (configuredFor a s) := by
  obtain ⟨hidle, -⟩ := h.setup.dormant hfirst
  exact {
    buffer := h.buffer.of_bufferView rfl
    engine := engineInv_of_ready ⟨hidle, rfl, rfl, rfl⟩ rfl
    setup := ⟨fun _ => ⟨rfl, rfl, rfl⟩, nofun⟩ }

theorem ProducerEffect.keeps_inv {s t : State} (heffect : ProducerEffect s t) (h : Inv s) : Inv t := by
  obtain ⟨hbuffer, hengine, hsetup⟩ := h
  cases heffect with
  | setUp a hfirst ha => exact configuredFor_keeps_inv ⟨hbuffer, hengine, hsetup⟩ hfirst _
  | publish bytes hpub =>
    refine ⟨publish_keeps_bufferInv hbuffer hpub, ?engine, ?setup⟩ <;> rw [publish_frame hpub]
    case engine => exact hengine.of_engineView rfl
    case setup =>
      refine ⟨hsetup.configured, fun hnot => ?_⟩
      obtain ⟨hidle, hgie, -, henables⟩ := hsetup.dormant hnot
      exact ⟨hidle, hgie, hgie, henables⟩
  | pack bytes hpack =>
    refine ⟨packBytes_keeps_bufferInv hbuffer hpack, ?engine, ?setup⟩ <;> rw [packBytes_frame hpack]
    case engine => exact hengine.of_engineView rfl
    case setup => exact ⟨hsetup.configured, hsetup.dormant⟩
  | unpack v =>
    exact ⟨hbuffer.of_bufferView rfl, hengine.of_engineView rfl, ⟨hsetup.configured, hsetup.dormant⟩⟩
  | mask hc =>
    refine ⟨hbuffer.of_bufferView rfl, hengine.of_engineView rfl, hsetup.configured, fun hnot => ?_⟩
    obtain ⟨hidle, hgie, -, henables⟩ := hsetup.dormant hnot
    exact ⟨hidle, rfl, hgie, henables⟩
  | restore =>
    refine ⟨hbuffer.of_bufferView rfl, hengine.of_engineView rfl, hsetup.configured, fun hnot => ?_⟩
    obtain ⟨hidle, -, hsaved, henables⟩ := hsetup.dormant hnot
    exact ⟨hidle, hsaved, hsaved, henables⟩

/-- One shift of an armed count, while no flag is pending: outside `S_IDLE`, and the flag comes up exactly when the
count is used up (44_environment R107). -/
theorem shiftBit_keeps_engineInv {s : State} (h : EngineInv s) (line : Bool) (hfree : s.clockHeld = false)
    (harmed : s.cnt ≠ 0#4) : EngineInv (shiftBit line s) := by
  have hbusy : s.state ≠ StateCode.idle := fun hidle => harmed (h.unarmed hidle)
  have hifg : s.ifg = false := (Bool.or_eq_false_iff.mp hfree).2
  have hcanon : (shiftBit line s).canon = s.canon := by simp [State.canon]
  obtain ⟨cursor, count, resting, device, unfolded, cursorZero, cursorMoved, -, -, driving, listening, -, -⟩ := h
  constructor <;>
    simp only [shiftBit_state, shiftBit_devAddr, shiftBit_dataIdx, shiftBit_bufLen, shiftBit_oe, shiftBit_cnt,
      shiftBit_ifg, hcanon, hifg, Bool.or_false, decide_eq_true_eq]
  case count => bv_omega
  case ready => exact fun hidle => absurd hidle hbusy
  case unarmed => exact fun hidle => absurd hidle hbusy
  case completed => exact id
  case live => exact fun _ => (em _).symm
  all_goals assumption

theorem BusEffect.keeps_inv {s t : State} (heffect : BusEffect s t) (h : Inv s) : Inv t := by
  obtain ⟨hbuffer, hengine, hsetup⟩ := h
  cases heffect with
  | start =>
    exact ⟨hbuffer.of_bufferView rfl, hengine.of_engineView rfl, ⟨hsetup.configured, hsetup.dormant⟩⟩
  | held e hheld =>
    exact ⟨hbuffer.of_bufferView rfl, hengine.of_engineView rfl, ⟨hsetup.configured, hsetup.dormant⟩⟩
  | traced e =>
    exact ⟨hbuffer.of_bufferView rfl, hengine.of_engineView rfl, ⟨hsetup.configured, hsetup.dormant⟩⟩
  | shifted e line hfree harmed =>
    refine ⟨hbuffer.of_bufferView (shiftBit_bufferView line s),
      (shiftBit_keeps_engineInv hengine line hfree harmed).of_engineView rfl, ?configured, ?dormant⟩
    case configured => simpa using hsetup.configured
    case dormant => simpa using hsetup.dormant

theorem writeNext_keeps_inv {s t : State} (h : Inv s) (hw : writeNext s = .next t) : Inv t := by
  refine ⟨writeNext_keeps_bufferInv h.buffer hw, ?engine, ?setup⟩ <;> rw [writeNext_frame hw]
  case engine => exact h.engine.of_engineView rfl
  case setup => exact ⟨h.setup.configured, h.setup.dormant⟩

/-- Settles O44: moving the queues on keeps the invariant, and so does what the agent then does, whichever it is. -/
theorem stepKeepsTheInvariant : Obligations.StepKeepsTheInvariant := by
  intro s t h hstep
  obtain ⟨hc, be, ts, hu⟩ := step_cases s
  have hq : Inv (s.withQueues hc be ts) := h.withQueues hc be ts
  rcases hu with hu | ⟨i, hi, -, hu⟩ | ⟨i, hi, hu⟩ | hu | hu | ⟨e, hu⟩ <;> rw [hu] at hstep
  · exact invokeHandler_keeps_inv hq hstep
  · exact (exec_producer_cases hi hstep).keeps_inv hq
  · exact (exec_bus_cases hi hstep).keeps_inv hq
  · exact writeNext_keeps_inv hq hstep
  · cases hstep
    exact hq
  · cases hstep

/-- Settles O43: at reset the buffer is empty, the engine ready and unarmed, and no interrupt enabled. -/
theorem resetMeetsTheInvariant : Obligations.ResetMeetsTheInvariant where
  buffer := ⟨reset_memory_wf, nofun, nofun⟩
  engine := engineInv_of_ready ⟨rfl, rfl, by decide, rfl⟩ rfl
  setup := ⟨nofun, fun _ => ⟨rfl, rfl, rfl, rfl, rfl⟩⟩

end Sys2Proof.Machine
end

section
/-! Where a step can fault, and that the invariant excludes it (10_state R27, 20_memory R34). O45. -/

namespace Sys2Proof.Machine

theorem Result.andThen_eq_fault {r : Result} {f : State → Result} {e : Fault}
    (h : Result.andThen r f = .fault e) : r = .fault e ∨ ∃ u, r = .next u ∧ f u = .fault e := by
  cases r with
  | next u => exact .inr ⟨u, rfl, h⟩
  | fault e' => exact .inl h
  | refused e' => cases h

/-- An invocation faults by its action only. -/
theorem takeInterrupt_eq_fault {action : State → Result} {s : State} {e : Fault}
    (h : takeInterrupt action s = .fault e) : action s = .fault e := by
  unfold takeInterrupt at h
  split at h
  · split at h
    · rcases Result.andThen_eq_fault h with h | ⟨u, -, h⟩
      · exact h
      · cases h
    · cases h
  · cases h

theorem txNext_eq_fault {s : State} {e : Fault} (h : txNext s = .fault e) : s.bufLen.n ≤ s.dataIdx.toNat := by
  by_contra hin
  rw [txNext_in (by omega)] at h
  cases h

/-- TX_CHECK asks whether a byte is left before it loads one (42_transmit R84). -/
theorem txCheck_ne_fault (s : State) (e : Fault) : txCheck s ≠ .fault e := by
  unfold txCheck
  split
  · exact nofun
  · split
    next hin => rw [txNext_in hin]; exact nofun
    · exact nofun

theorem noAction_ne_fault (why : Refusal) (s : State) (e : Fault) : noAction why s ≠ .fault e := by
  unfold noAction
  split <;> exact nofun

/-- TX_DATA with the cursor at the end of the buffer is the one fault of the handler (20_memory R34). -/
theorem exec_handler_fault {i : Instr} {s : State} {e : Fault} (hi : isHandlerAction i = true)
    (h : exec i s = .fault e) : i = .hTxData ∧ s.bufLen.n ≤ s.dataIdx.toNat := by
  cases i with
  | hStart cccc => nomatch takeInterrupt_eq_fault ((exec_hStart cccc s).symm.trans h)
  | hIdle => nomatch takeInterrupt_eq_fault ((exec_hIdle s).symm.trans h)
  | hAddress => nomatch takeInterrupt_eq_fault ((exec_hAddress s).symm.trans h)
  | hProcessAddress => nomatch takeInterrupt_eq_fault ((exec_hProcessAddress s).symm.trans h)
  | hRxCheck => nomatch takeInterrupt_eq_fault ((exec_hRxCheck s).symm.trans h)
  | hRxData => exact absurd h (noAction_ne_fault _ _ _)
  | hTxData => exact ⟨rfl, txNext_eq_fault (takeInterrupt_eq_fault h)⟩
  | hAckNack => nomatch takeInterrupt_eq_fault ((exec_hAckNack s).symm.trans h)
  | hTxCheck => exact absurd (takeInterrupt_eq_fault h) (txCheck_ne_fault s e)
  | hIllegal xxx => exact absurd h (noAction_ne_fault _ _ _)
  | _ => nomatch hi

/-- In `S_TX_DATA` the cursor is 0, so its byte is in the buffer. -/
theorem invokeHandler_ne_fault {s : State} (h : EngineInv s) (e : Fault) : invokeHandler s ≠ .fault e :=
  fun hfault => by
    obtain ⟨hi, hout⟩ := exec_handler_fault (decodeDispatch_isHandlerAction _) hfault
    obtain ⟨-, hstate⟩ := flag_and_state_of_dispatched (s := s) (c := StateCode.txData) (by rw [hi]; rfl)
    have hidx : s.dataIdx = 0#3 := h.cursorZero (.inr (.inr hstate))
    cases hlen : s.bufLen <;> simp [hidx, hlen] at hout

theorem writeNext_ne_fault {s : State} (h : ∀ w ∈ s.pendingWrites, w.1 < s.bufLen.n) (e : Fault) :
    writeNext s ≠ .fault e := by
  unfold writeNext
  split
  · exact nofun
  next w rest hp =>
    rw [memWrite_in (s := { s with pendingWrites := rest }) _ (h w (hp ▸ List.mem_cons_self))]
    exact nofun

theorem startWrites_ne_fault {ws : List (Nat × Byte)} {s : State}
    (h : ∀ w ∈ s.pendingWrites ++ ws, w.1 < s.bufLen.n) (e : Fault) : startWrites ws s ≠ .fault e := by
  unfold startWrites
  split
  · obtain ⟨t, ht⟩ := writeAll_in (s := { s with pendingWrites := [] }) h
    rw [ht]
    exact nofun
  · exact writeNext_ne_fault h e

theorem packBytes_ne_fault {bytes : List Byte} {s : State} (h : ∀ w ∈ s.pendingWrites, w.1 < s.bufLen.n)
    (e : Fault) : packBytes bytes s ≠ .fault e := by
  unfold packBytes
  split
  next hlen =>
    refine startWrites_ne_fault (fun w hw => ?_) e
    rcases List.mem_append.mp hw with hw | hw
    · exact h w hw
    · exact (packWrites_lt hw).trans_eq hlen
  · exact nofun

theorem maskInterrupts_ne_fault (s : State) (e : Fault) : maskInterrupts s ≠ .fault e := by
  unfold maskInterrupts
  split <;> exact nofun

theorem publish_ne_fault {bytes : List Byte} {s : State} (h : ∀ w ∈ s.pendingWrites, w.1 < s.bufLen.n)
    (e : Fault) : publish bytes s ≠ .fault e := fun hfault => by
  unfold publish at hfault
  split at hfault
  · rcases Result.andThen_eq_fault hfault with hmask | ⟨u, hmask, hfault⟩
    · exact maskInterrupts_ne_fault s e hmask
    · obtain ⟨-, rfl⟩ := maskInterrupts_cases hmask
      rcases Result.andThen_eq_fault hfault with hpack | ⟨v, -, hleave⟩
      · exact packBytes_ne_fault (s := enterCritical s) h e hpack
      · cases hleave
  · cases hfault

theorem execHostInit_ne_fault (a : Nat) (s : State) (e : Fault) : execHostInit a s ≠ .fault e := by
  unfold execHostInit
  split
  · exact nofun
  · split <;> exact nofun

/-- A call of the producer stores inside the buffer when the writes still to come do. -/
theorem producer_ne_fault {i : Instr} {s : State} (hi : isProducerCall i = true)
    (h : ∀ w ∈ s.pendingWrites, w.1 < s.bufLen.n) (e : Fault) : exec i s ≠ .fault e := by
  cases i with
  | hostInit a => exact execHostInit_ne_fault a s e
  | setTransmitValue16 v => exact publish_ne_fault h e
  | setTransmitValue32 v => exact publish_ne_fault h e
  | pack16 v => exact packBytes_ne_fault h e
  | pack32 v => exact packBytes_ne_fault h e
  | unpack16 b0 b1 => exact nofun
  | unpack32 b0 b1 b2 b3 => exact nofun
  | irqMask => exact maskInterrupts_ne_fault s e
  | irqRestore => exact nofun
  | _ => nomatch hi

theorem execEnvClock_ne_fault (m : Bool) (s : State) (e : Fault) : execEnvClock m s ≠ .fault e := by
  unfold execEnvClock
  split
  · exact nofun
  · split <;> exact nofun

theorem bus_ne_fault {i : Instr} (s : State) (hi : isBusEvent i = true) (e : Fault) : exec i s ≠ .fault e := by
  cases i with
  | envStart x => exact nofun
  | envClock m => exact execEnvClock_ne_fault m s e
  | envStop x => exact nofun
  | _ => nomatch hi

/-- Settles O45: the handler reads at a cursor of 0 or one it has compared with `N`, and every byte write to come
lies in the buffer. -/
theorem noStepFaultsUnderTheInvariant : Obligations.NoStepFaultsUnderTheInvariant := by
  intro s e h
  obtain ⟨hc, be, ts, hu⟩ := step_cases s
  have hq : Inv (s.withQueues hc be ts) := h.withQueues hc be ts
  rcases hu with hu | ⟨i, hi, -, hu⟩ | ⟨i, hi, hu⟩ | hu | hu | ⟨r, hu⟩ <;> rw [hu]
  · exact invokeHandler_ne_fault hq.engine e
  · exact producer_ne_fault hi hq.buffer.pending e
  · exact bus_ne_fault _ hi e
  · exact writeNext_ne_fault hq.buffer.pending e
  · exact nofun
  · exact nofun

end Sys2Proof.Machine
end

section
/-! The state after power-on (10_state R21, R22, R24). O6. -/

namespace Sys2Proof.Machine

/-- Without a pending enabled flag there is no invocation to take (60_exceptions R126). -/
theorem takeInterrupt_unrequested (action : State → Result) {s : State} (h : s.irq = false) :
    takeInterrupt action s = .refused .handlerWithoutPendingFlag := by
  simp [takeInterrupt, h]

/-- Settles O6: the fields are as `State.reset` writes them, and no flag is pending for the IDLE action that its key
selects. -/
theorem resetIsIdleWithInterruptsOff : Obligations.ResetIsIdleWithInterruptsOff := by
  have hkey : decodeDispatch State.reset.dispatchKey = .hIdle := by decide
  refine ⟨rfl, rfl, rfl, rfl, rfl, rfl, ?handler⟩
  case handler =>
    rw [invokeHandler, hkey, exec_hIdle]
    exact takeInterrupt_unrequested _ rfl

end Sys2Proof.Machine
end

section
/-! That the producer's calls read and write the foreground's own state only (20_memory R43, 60_exceptions R134): one
congruence per operation. O35. -/

namespace Sys2Proof.Machine

/-- `s'` agrees with `s` on what a call of the producer may read: the buffer and its length, `GIE`, `GIE_SAVED`,
`INIT_DONE` and the producer's own fields. The engine and the bus may have got to any point. -/
structure SameForeground (s s' : State) : Prop where
  bufLen : s'.bufLen = s.bufLen
  txbuf : s'.txbuf = s.txbuf
  gie : s'.gie = s.gie
  gieSaved : s'.gieSaved = s.gieSaved
  inCritical : s'.inCritical = s.inCritical
  initDone : s'.initDone = s.initDone
  pendingWrites : s'.pendingWrites = s.pendingWrites
  unpacked : s'.unpacked = s.unpacked

/-- The answers `r` and `r'` look alike to the producer. -/
inductive SameAnswer : Result → Result → Prop
  | next {t t' : State} (h : SameForeground t t') : SameAnswer (.next t) (.next t')
  | fault (e : Fault) : SameAnswer (.fault e) (.fault e)
  | refused (e : Refusal) : SameAnswer (.refused e) (.refused e)

theorem SameAnswer.andThen {r r' : Result} {f f' : State → Result} (h : SameAnswer r r')
    (hf : ∀ t t', SameForeground t t' → SameAnswer (f t) (f' t')) :
    SameAnswer (Result.andThen r f) (Result.andThen r' f') := by
  cases h with
  | next h => exact hf _ _ h
  | fault e => exact .fault e
  | refused e => exact .refused e

theorem SameAnswer.ite {c c' : Prop} [Decidable c] [Decidable c'] {r₁ r₁' r₂ r₂' : Result} (hc : c ↔ c')
    (h₁ : SameAnswer r₁ r₁') (h₂ : SameAnswer r₂ r₂') :
    SameAnswer (if c then r₁ else r₂) (if c' then r₁' else r₂') := by
  by_cases h : c
  · rwa [if_pos h, if_pos (hc.mp h)]
  · rwa [if_neg h, if_neg (mt hc.mpr h)]

theorem SameAnswer.of_next {t : State} {r' : Result} (h : SameAnswer (.next t) r') :
    ∃ t', r' = .next t' ∧ SameForeground t t' := by
  cases h with
  | next h => exact ⟨_, rfl, h⟩

theorem SameAnswer.of_fault {e : Fault} {r' : Result} (h : SameAnswer (.fault e) r') : r' = .fault e := by
  cases h
  rfl

theorem SameAnswer.of_refused {e : Refusal} {r' : Result} (h : SameAnswer (.refused e) r') : r' = .refused e := by
  cases h
  rfl

section
variable {s s' : State}

theorem SameForeground.withPendingWrites (h : SameForeground s s') (ws : List (Nat × Byte)) :
    SameForeground { s with pendingWrites := ws } { s' with pendingWrites := ws } :=
  { h with pendingWrites := rfl }

theorem SameForeground.withUnpacked (h : SameForeground s s') (v : HostValue) :
    SameForeground { s with unpacked := some v } { s' with unpacked := some v } :=
  { h with unpacked := rfl }

theorem SameForeground.enterCritical (h : SameForeground s s') :
    SameForeground (enterCritical s) (enterCritical s') :=
  { h with gie := rfl, gieSaved := h.gie, inCritical := rfl }

theorem SameForeground.leaveCritical (h : SameForeground s s') :
    SameForeground (leaveCritical s) (leaveCritical s') :=
  { h with gie := h.gieSaved, inCritical := rfl }

/-- The set-up writes the engine, but with values of its own. -/
theorem SameForeground.configuredFor (h : SameForeground s s') (a : BitVec 7) :
    SameForeground (configuredFor a s) (configuredFor a s') :=
  { h with gie := rfl, initDone := rfl }

theorem SameForeground.memWrite (h : SameForeground s s') (k : Nat) (b : Byte) :
    SameAnswer (memWrite k b s) (memWrite k b s') := by
  unfold Machine.memWrite
  exact .ite (by rw [h.bufLen]) (.next { h with txbuf := by rw [h.txbuf] }) (.fault _)

theorem SameForeground.writeAll (h : SameForeground s s') (ws : List (Nat × Byte)) :
    SameAnswer (writeAll ws s) (writeAll ws s') := by
  induction ws generalizing s s' with
  | nil => exact .next h
  | cons w rest ih => exact (h.memWrite w.1 w.2).andThen fun _ _ ht => ih ht

theorem SameForeground.writeNext (h : SameForeground s s') : SameAnswer (writeNext s) (writeNext s') := by
  unfold Machine.writeNext
  rw [h.pendingWrites]
  split
  · exact .next h
  next w rest _ => exact (h.withPendingWrites rest).memWrite w.1 w.2

theorem SameForeground.startWrites (h : SameForeground s s') (ws : List (Nat × Byte)) :
    SameAnswer (startWrites ws s) (startWrites ws s') := by
  unfold Machine.startWrites
  have hws : s'.pendingWrites ++ ws = s.pendingWrites ++ ws := by rw [h.pendingWrites]
  rw [hws]
  exact .ite (by rw [h.inCritical]) ((h.withPendingWrites []).writeAll _) (h.withPendingWrites _).writeNext

theorem SameForeground.packBytes (h : SameForeground s s') (bytes : List Byte) :
    SameAnswer (packBytes bytes s) (packBytes bytes s') := by
  unfold Machine.packBytes
  exact .ite (by rw [h.bufLen]) (h.startWrites _) (.refused _)

theorem SameForeground.maskInterrupts (h : SameForeground s s') :
    SameAnswer (maskInterrupts s) (maskInterrupts s') := by
  unfold Machine.maskInterrupts
  exact .ite (by rw [h.inCritical]) (.refused _) (.next h.enterCritical)

theorem SameForeground.publish (h : SameForeground s s') (bytes : List Byte) :
    SameAnswer (publish bytes s) (publish bytes s') := by
  unfold Machine.publish
  refine .ite (by rw [h.bufLen]) ?_ (.refused _)
  exact h.maskInterrupts.andThen fun _ _ hmasked =>
    (hmasked.packBytes bytes).andThen fun _ _ hpacked => .next hpacked.leaveCritical

theorem SameForeground.execHostInit (h : SameForeground s s') (a : Nat) :
    SameAnswer (execHostInit a s) (execHostInit a s') := by
  unfold Machine.execHostInit
  exact .ite (by rw [h.initDone]) (.refused _)
    (.ite Iff.rfl (.refused _) (.next (h.configuredFor (BitVec.ofNat 7 a))))

/-- Every call of the producer answers alike in states that agree on the foreground. -/
theorem SameForeground.exec_producer (h : SameForeground s s') {i : Instr} (hi : isProducerCall i = true) :
    SameAnswer (exec i s) (exec i s') := by
  cases i with
  | hostInit a => exact h.execHostInit a
  | setTransmitValue16 v => exact h.publish (packBytes16 v)
  | setTransmitValue32 v => exact h.publish (packBytes32 v)
  | pack16 v => exact h.packBytes (packBytes16 v)
  | pack32 v => exact h.packBytes (packBytes32 v)
  | unpack16 b0 b1 => exact .next (h.withUnpacked _)
  | unpack32 b0 b1 b2 b3 => exact .next (h.withUnpacked _)
  | irqMask => exact h.maskInterrupts
  | irqRestore => exact .next h.leaveCritical
  | _ => nomatch hi

end

/-- Settles O35: the two answers are of the same kind, and agree on what that kind carries. -/
theorem foregroundCannotObserveTheEngine : Obligations.ForegroundCannotObserveTheEngine := by
  intro i s s' hi hlen hbuf hgie hsaved hcritical hdone hpending hunpacked
  have h : SameForeground s s' := ⟨hlen, hbuf, hgie, hsaved, hcritical, hdone, hpending, hunpacked⟩
  have hanswer : SameAnswer (exec i s) (exec i s') := h.exec_producer hi
  refine ⟨fun t ht => ?next, fun r hr => ?refused, fun e he => ?fault⟩
  case next =>
    obtain ⟨t', ht', hsame⟩ := (ht ▸ hanswer).of_next
    exact ⟨t', ht', hsame.bufLen, hsame.txbuf, hsame.gie, hsame.gieSaved, hsame.inCritical, hsame.initDone,
      hsame.pendingWrites, hsame.unpacked⟩
  case refused => exact (hr ▸ hanswer).of_refused
  case fault => exact (he ▸ hanswer).of_fault

end Sys2Proof.Machine
end

section
/-! Whose turn it is when no turn is prescribed (20_memory R39, 60_exceptions R126; log 1). O8. -/

namespace Sys2Proof.Machine

theorem defaultAgent_handler {s : State} (h : s.handlerEnabled = true) : defaultAgent s = some .handler := by
  simp [defaultAgent, h]

theorem defaultAgent_producer {s : State} (hoff : s.handlerEnabled = false)
    (h : s.pendingWrites ≠ [] ∨ s.hostCalls ≠ []) : defaultAgent s = some .producer := by
  simp [defaultAgent, hoff, h]

/-- The bus has its turn when the foreground has nothing to do, and nobody moves when the bus has nothing either. -/
theorem defaultAgent_of_idle_foreground {s : State} (hoff : s.handlerEnabled = false)
    (hpending : s.pendingWrites = []) (hcalls : s.hostCalls = []) :
    defaultAgent s = if s.busEvents ≠ [] then some .environment else none := by
  simp [defaultAgent, hoff, hpending, hcalls]

theorem fetch_of_defaultAgent {s : State} {a : Agent} (hturns : s.turns = []) (h : defaultAgent s = some a) :
    fetch s = fetchFor a s := by
  simp only [fetch, hturns, h]

/-- The default agent's turn runs the instruction it fetches. -/
theorem step_of_defaultAgent {s t : State} {a : Agent} {i : Instr} (hturns : s.turns = [])
    (h : defaultAgent s = some a) (hfetch : fetchFor a s = .ok (i, t)) : step s = exec i t :=
  step_of_fetch_ok ((fetch_of_defaultAgent hturns h).trans hfetch)

theorem step_of_fetch_error {s : State} {r : Result} (h : fetch s = .error r) : step s = r := by
  rw [step, h]

/-- A pack in progress goes on before the next call (43_codec_host R100). -/
theorem fetchFor_producer_of_pending {s : State} {w : Nat × Byte} {rest : List (Nat × Byte)}
    (h : s.pendingWrites = w :: rest) : fetchFor .producer s = .error (writeNext s) := by
  simp only [fetchFor, fetchProducer, h]

theorem writeNext_of_pending {s : State} {k : Nat} {b : Byte} {rest : List (Nat × Byte)}
    (h : s.pendingWrites = (k, b) :: rest) (hk : k < s.bufLen.n) :
    writeNext s = .next { s with txbuf := Memory.write s.txbuf k b, pendingWrites := rest } := by
  simp only [writeNext, h]
  exact memWrite_in b hk

/-- Settles O8: each clause is the rule of the default agent, then that agent's fetch rule. -/
theorem stepWithoutTurnsTakesTheDefaultOrder : Obligations.StepWithoutTurnsTakesTheDefaultOrder := by
  intro s hturns
  refine ⟨fun hon => ?handler, fun w ws i hoff hpending hcalls hdecode => ?producer,
    fun k b rest hoff hpending hk => ?pack,
    fun e es i hoff hpending hcalls hevents hdecode => ?environment,
    fun hoff hpending hcalls hevents => ?nobody⟩
  case handler => exact step_of_defaultAgent hturns (defaultAgent_handler hon) (fetchFor_handler s)
  case producer =>
    have hagent : defaultAgent s = some .producer := defaultAgent_producer hoff (.inr (by simp [hcalls]))
    exact step_of_defaultAgent hturns hagent (fetchFor_producer_of_decode hpending hcalls hdecode)
  case pack =>
    have hagent : defaultAgent s = some .producer := defaultAgent_producer hoff (.inl (by simp [hpending]))
    calc step s
      _ = writeNext s :=
        step_of_fetch_error ((fetch_of_defaultAgent hturns hagent).trans (fetchFor_producer_of_pending hpending))
      _ = .next { s with txbuf := Memory.write s.txbuf k b, pendingWrites := rest } :=
        writeNext_of_pending hpending hk
  case environment =>
    have hagent : defaultAgent s = some .environment := by
      simp [defaultAgent_of_idle_foreground hoff hpending hcalls, hevents]
    exact step_of_defaultAgent hturns hagent (fetchFor_environment_of_decode hevents hdecode)
  case nobody =>
    have hagent : defaultAgent s = none := by
      simp [defaultAgent_of_idle_foreground hoff hpending hcalls, hevents]
    exact step_of_fetch_error (by simp only [fetch, hturns, hagent])

end Sys2Proof.Machine
end

section
/-! The decoder and the encoder, format by format (30_encoding R47, R59). O1, O2, O3 and O4. -/

namespace Sys2Proof.Machine

/-! ### Bit fields as numbers -/

theorem append_toNat_div {n m : Nat} (a : BitVec n) (b : BitVec m) : (a ++ b).toNat / 2 ^ m = a.toNat := by
  rw [append_toNat, Nat.mul_comm, Nat.mul_add_div (by positivity), Nat.div_eq_of_lt b.isLt, Nat.add_zero]

theorem ofNat_append_toNat {n m : Nat} (a : BitVec n) (b : BitVec m) : BitVec.ofNat m (a ++ b).toNat = b := by
  apply BitVec.eq_of_toNat_eq
  rw [BitVec.toNat_ofNat, append_toNat, Nat.mul_add_mod_self_right, Nat.mod_eq_of_lt b.isLt]

/-- Two neighbouring fields of a number are one field. -/
theorem ofNat_div_append_ofNat (n m x : Nat) :
    BitVec.ofNat n (x / 2 ^ m) ++ BitVec.ofNat m x = BitVec.ofNat (n + m) x := by
  apply BitVec.eq_of_toNat_eq
  simp only [append_toNat, BitVec.toNat_ofNat]
  rw [Nat.add_comm n m, Nat.pow_add, Nat.mod_mul, Nat.mul_comm, Nat.add_comm]

/-! ### The HOST format -/

theorem hostWord_tag {tag operandWidth operand : Nat} (h : operand < 2 ^ operandWidth) :
    (hostWord tag operandWidth operand).tag = tag := by
  simp only [HostWord.tag, hostWord, Nat.add_sub_cancel]
  rw [Nat.mul_comm, Nat.mul_add_div (by positivity), Nat.div_eq_of_lt h, Nat.add_zero]

theorem hostWord_operand {tag operandWidth operand : Nat} (h : operand < 2 ^ operandWidth) :
    (hostWord tag operandWidth operand).operand = operand := by
  simp only [HostWord.operand, hostWord, Nat.add_sub_cancel]
  rw [Nat.mul_add_mod_self_right, Nat.mod_eq_of_lt h]

/-- A HOST word with room for its tag is put together from its tag and its operand. -/
theorem hostWord_of_fields {w : HostWord} (h : 4 ≤ w.width) :
    hostWord w.tag (w.width - 4) w.operand = w := by
  obtain ⟨width, bits⟩ := w
  simp only [hostWord, HostWord.tag, HostWord.operand, HostWord.mk.injEq]
  exact ⟨Nat.sub_add_cancel h, Nat.div_add_mod' bits _⟩

theorem hostWidth_reserved {tag : Nat} (h : 9 ≤ tag) : hostWidth tag = none :=
  match tag, h with
  | _ + 9, _ => rfl

theorem tag_lt_of_hostWidth {tag n : Nat} (h : hostWidth tag = some n) : tag < 16 := by
  by_contra htag
  rw [hostWidth_reserved (by omega)] at h
  cases h

/-- A word with a tag of R59, that tag's width, and an operand in its field decodes to the tag's operation. -/
theorem decodeHost_hostWord {tag operandWidth operand : Nat} {i : Instr}
    (hwidth : hostWidth tag = some (operandWidth + 4)) (hoperand : operand < 2 ^ operandWidth)
    (hinstr : hostInstr tag operand = some i) : decodeHost (hostWord tag operandWidth operand) = .ok i := by
  have hfits : ¬((hostWord tag operandWidth operand).width < 4 ∨
      2 ^ (hostWord tag operandWidth operand).width ≤ (hostWord tag operandWidth operand).bits) := by
    have := Laws.EncodedWidth.hostWord_bits (tag_lt_of_hostWidth hwidth) hoperand
    simp only [hostWord] at this ⊢
    omega
  rw [decodeHost, if_neg hfits, hostWord_tag hoperand, hostWord_operand hoperand, hwidth, hinstr]
  exact if_pos rfl

/-- A HOST word that decodes fits its width, which is its tag's, and its tag's operation is what it decodes to. -/
theorem decodeHost_eq_ok {w : HostWord} {i : Instr} (h : decodeHost w = .ok i) :
    4 ≤ w.width ∧ hostWidth w.tag = some w.width ∧ hostInstr w.tag w.operand = some i := by
  unfold decodeHost at h
  split at h
  · cases h
  next hfits =>
    split at h
    next n j hn hj =>
      split at h
      next hwidth =>
        cases h
        exact ⟨by omega, hwidth ▸ hn, hj⟩
      · cases h
    · cases h

/-- Four bytes of a number, the highest on top (43_codec_host R93). -/
theorem four_bytes_append (x : Nat) :
    BitVec.ofNat 8 (x / 2 ^ 24) ++ BitVec.ofNat 8 (x / 2 ^ 16) ++ BitVec.ofNat 8 (x / 2 ^ 8) ++ BitVec.ofNat 8 x
      = BitVec.ofNat 32 x := by
  have h24 : x / 2 ^ 24 = x / 2 ^ 16 / 2 ^ 8 := by omega
  have h16 : x / 2 ^ 16 = x / 2 ^ 8 / 2 ^ 8 := by omega
  rw [h24, ofNat_div_append_ofNat 8 8, h16, ofNat_div_append_ofNat 16 8, ofNat_div_append_ofNat 24 8]

/-- The operation of a HOST tag is well formed and has that tag, that tag's width and the operand for its word. -/
theorem encode_of_hostInstr {tag operandWidth operand : Nat} {i : Instr}
    (hwidth : hostWidth tag = some (operandWidth + 4)) (hoperand : operand < 2 ^ operandWidth)
    (hinstr : hostInstr tag operand = some i) :
    encode i = .host (hostWord tag operandWidth operand) ∧ i.wf = true := by
  have htoNat : (BitVec.ofNat operandWidth operand).toNat = operand := by
    rw [BitVec.toNat_ofNat, Nat.mod_eq_of_lt hoperand]
  unfold hostInstr at hinstr
  split at hinstr <;> cases hinstr <;>
    simp only [hostWidth, Option.some.injEq, Nat.reduceEqDiff] at hwidth <;> subst hwidth
  case h_1 => -- the set-up call
    rw [show operand % 128 = operand from Nat.mod_eq_of_lt hoperand]
    exact ⟨rfl, decide_eq_true (Nat.le_of_lt_succ hoperand)⟩
  case h_6 => -- `unpack16`
    rw [encode, ofNat_div_append_ofNat 8 8]
    exact ⟨congrArg (CodeWord.host ∘ hostWord 5 16) htoNat, rfl⟩
  case h_7 => -- `unpack32`
    rw [encode, four_bytes_append]
    exact ⟨congrArg (CodeWord.host ∘ hostWord 6 32) htoNat, rfl⟩
  case h_8 | h_9 => -- `irq_mask` and `irq_restore`, whose words hold no operand
    obtain rfl : operand = 0 := Nat.lt_one_iff.mp hoperand
    exact ⟨rfl, rfl⟩
  -- the publishes and the packs
  all_goals exact ⟨congrArg (CodeWord.host ∘ hostWord _ _) htoNat, rfl⟩

theorem hostInstr_unpack16 (b0 b1 : Byte) : hostInstr 5 (b0 ++ b1).toNat = some (.unpack16 b0 b1) := by
  rw [hostInstr, append_toNat_div, ofNat_append_toNat, BitVec.ofNat_toNat, BitVec.setWidth_eq]

theorem hostInstr_unpack32 (b0 b1 b2 b3 : Byte) :
    hostInstr 6 (b0 ++ b1 ++ b2 ++ b3).toNat = some (.unpack32 b0 b1 b2 b3) := by
  have h8 : (b0 ++ b1 ++ b2 ++ b3).toNat / 2 ^ 8 = (b0 ++ b1 ++ b2).toNat := append_toNat_div _ _
  have h16 : (b0 ++ b1 ++ b2 ++ b3).toNat / 2 ^ 16 = (b0 ++ b1).toNat := by
    rw [← append_toNat_div (b0 ++ b1) b2, ← h8]
    omega
  have h24 : (b0 ++ b1 ++ b2 ++ b3).toNat / 2 ^ 24 = b0.toNat := by
    rw [← append_toNat_div b0 b1, ← h16]
    omega
  rw [hostInstr, h8, h16, h24, ofNat_append_toNat, ofNat_append_toNat, ofNat_append_toNat, BitVec.ofNat_toNat,
    BitVec.setWidth_eq]

/-! ### The DISPATCH and the ENV format -/

theorem decodeDispatch_hStart (c : StateCode) : decodeDispatch (1#1 ++ c) = .hStart c := by
  revert c; decide

theorem decodeDispatch_hIllegal (x : BitVec 3) : decodeDispatch (0#1 ++ x ++ 1#1) = .hIllegal x := by
  revert x; decide

theorem encode_decodeDispatch (key : DispatchKey) :
    encode (decodeDispatch key) = .dispatch key ∧ (decodeDispatch key).wf = true := by
  revert key; decide

/-- An ENV word is put together from its tag and its operand bit. -/
theorem envWord_of_fields {e : EnvWord} {tag : BitVec 2} (h : e.toNat / 2 = tag.toNat) :
    envWord tag (e.getLsbD 0) = e := by
  revert e tag; decide

theorem encode_of_decodeEnv {e : EnvWord} {i : Instr} (h : decodeEnv e = .ok i) :
    encode i = .env e ∧ i.wf = true := by
  unfold decodeEnv at h
  split at h <;> cases h
  all_goals exact ⟨congrArg CodeWord.env (envWord_of_fields ‹_›), rfl⟩

/-! ### The obligations -/

/-- Settles O1: each word is short enough to be decoded outright. -/
theorem specWordsDecode : Obligations.SpecWordsDecode := by
  unfold Obligations.SpecWordsDecode
  decide

/-- Settles O2: the ten rows are checked on each of the 32 keys. -/
theorem dispatchMapCoversEveryKeyOnce : Obligations.DispatchMapCoversEveryKeyOnce := by
  unfold Obligations.DispatchMapCoversEveryKeyOnce
  decide

/-- Settles O3: a HOST word decodes through its tag's row and its operand, the short words by their bits. -/
theorem decodeUndoesEncode : Obligations.DecodeUndoesEncode := by
  intro i hwf
  cases i with
  | hStart c => exact congrArg Except.ok (decodeDispatch_hStart c)
  | hIllegal x => exact congrArg Except.ok (decodeDispatch_hIllegal x)
  | hIdle | hAddress | hProcessAddress | hRxCheck | hRxData | hTxData | hAckNack | hTxCheck => rfl
  | hostInit a =>
    have ha : a < 128 := Nat.lt_succ_of_le (of_decide_eq_true hwf)
    exact decodeHost_hostWord rfl ha (by rw [hostInstr, Nat.mod_eq_of_lt ha])
  | setTransmitValue16 v | setTransmitValue32 v | pack16 v | pack32 v =>
    exact decodeHost_hostWord rfl v.isLt (by rw [hostInstr, BitVec.ofNat_toNat, BitVec.setWidth_eq])
  | unpack16 b0 b1 => exact decodeHost_hostWord rfl (b0 ++ b1).isLt (hostInstr_unpack16 b0 b1)
  | unpack32 b0 b1 b2 b3 =>
    exact decodeHost_hostWord rfl (b0 ++ b1 ++ b2 ++ b3).isLt (hostInstr_unpack32 b0 b1 b2 b3)
  | irqMask | irqRestore => exact decodeHost_hostWord rfl Nat.zero_lt_one rfl
  | envStart b | envClock b | envStop b => cases b <;> rfl

/-- Settles O4: a word that decodes has the fields of the instruction it gives, and nothing else. -/
theorem encodeUndoesDecode : Obligations.EncodeUndoesDecode := by
  intro c i h
  cases c with
  | dispatch key =>
    cases h
    exact encode_decodeDispatch key
  | env e => exact encode_of_decodeEnv h
  | host w =>
    obtain ⟨hroom, hwidth, hinstr⟩ := decodeHost_eq_ok h
    have hoperand : w.operand < 2 ^ (w.width - 4) := Nat.mod_lt _ (by positivity)
    rw [← Nat.sub_add_cancel hroom] at hwidth
    obtain ⟨hencode, hwf⟩ := encode_of_hostInstr hwidth hoperand hinstr
    exact ⟨hencode.trans (congrArg CodeWord.host (hostWord_of_fields hroom)), hwf⟩

end Sys2Proof.Machine
end

section
/-! Words that are no instruction, and table words placed for the next step (30_encoding R59; log 15). O5, O9. -/

namespace Sys2Proof.Machine

/-! ### Reserved words -/

/-- A word of any width with a reserved tag and a number that fits is refused as reserved, not as malformed. -/
theorem decodeHost_reserved {w : HostWord} (hroom : 4 ≤ w.width) (hfits : w.bits < 2 ^ w.width)
    (htag : 9 ≤ w.tag) : decodeHost w = .error .hostReservedTag := by
  rw [decodeHost, if_neg (by omega), hostWidth_reserved htag]

theorem fetchFor_producer_of_decode_error {s : State} {w : HostWord} {ws : List HostWord} {e : DecodeError}
    (hpending : s.pendingWrites = []) (hcalls : s.hostCalls = w :: ws) (hdecode : decode (.host w) = .error e) :
    fetchFor .producer s = .error (.refused (refusalOf e)) := by
  rw [decode] at hdecode
  simp only [fetchFor, fetchProducer, hpending, hcalls, hdecode]

theorem fetchFor_environment_of_decode_error {s : State} {w : EnvWord} {ws : List EnvWord} {e : DecodeError}
    (hevents : s.busEvents = w :: ws) (hdecode : decode (.env w) = .error e) :
    fetchFor .environment s = .error (.refused (refusalOf e)) := by
  rw [decode] at hdecode
  simp only [fetchFor, fetchEnvironment, hevents, hdecode]

/-- A prescribed turn whose agent fetches no instruction answers what the fetching answers. -/
theorem step_of_turn_error {s : State} {a : Agent} {ts : List Agent} {r : Result} (hturns : s.turns = a :: ts)
    (hfetch : fetchFor a { s with turns := ts } = .error r) : step s = r :=
  step_of_fetch_error ((fetch_of_turns_cons hturns).trans hfetch)

/-- Settles O5: no row has the tag, and the agent that meets the word refuses it under the decoder's name. -/
theorem reservedTagsAreRefused : Obligations.ReservedTagsAreRefused := by
  refine ⟨fun w hroom hfits htag => ?host, fun m => ?env⟩
  case host =>
    have hdecode : decode (.host w) = .error .hostReservedTag := decodeHost_reserved hroom hfits htag
    refine ⟨hdecode, fun s ts ws hturns hpending hcalls => ?_⟩
    have hfetch : fetchFor .producer { s with turns := ts } = .error (.refused (refusalOf _)) :=
      fetchFor_producer_of_decode_error hpending hcalls hdecode
    exact step_of_turn_error hturns hfetch
  case env =>
    have hdecode : decode (.env (0b11#2 ++ BitVec.ofBool m)) = .error .envReservedTag := by cases m <;> rfl
    refine ⟨hdecode, fun s ts es hturns hevents => ?_⟩
    have hfetch : fetchFor .environment { s with turns := ts } = .error (.refused (refusalOf _)) :=
      fetchFor_environment_of_decode_error hevents hdecode
    exact step_of_turn_error hturns hfetch

/-! ### Placed words -/

theorem decodeTableWord_eq_some {nbits w : Nat} {i : Instr} (h : decodeTableWord nbits w = some i) :
    ∃ c, CodeWord.ofTable nbits w = some c ∧ decode c = .ok i := by
  unfold decodeTableWord at h
  split at h
  · cases h
  next c hc =>
    split at h <;> cases h
    exact ⟨c, hc, ‹_›⟩

theorem withFetchWord_of_ofTable {nbits w : Nat} {c : CodeWord} (s : State)
    (h : CodeWord.ofTable nbits w = some c) : s.withFetchWord nbits w = placeWord s c := by
  rw [State.withFetchWord, placeTableWord, h]

/-- A placed dispatch key is the key that the handler reads, in its next turn. -/
theorem step_placeWord_dispatch (s : State) (key : DispatchKey) :
    step (placeWord s (.dispatch key)) =
      exec (decodeDispatch key) { placeWord s (.dispatch key) with turns := s.turns } := by
  have hkey : BitVec.ofBool (key.getLsbD 4) ++ key.extractLsb' 0 4 = key := by revert key; decide
  calc step (placeWord s (.dispatch key))
    _ = exec (decodeDispatch (BitVec.ofBool (key.getLsbD 4) ++ key.extractLsb' 0 4))
          { placeWord s (.dispatch key) with turns := s.turns } := step_of_turn rfl (fetchFor_handler _)
    _ = exec (decodeDispatch key) { placeWord s (.dispatch key) with turns := s.turns } := by rw [hkey]

/-- Settles O9: the placed word is what its agent finds in the turn it is given; taking the word and the turn off
again leaves the queues of `s`. -/
theorem placedWordRunsNext : Obligations.PlacedWordRunsNext := by
  intro s nbits w i h
  obtain ⟨c, htable, hdecode⟩ := decodeTableWord_eq_some h
  rw [withFetchWord_of_ofTable s htable]
  cases c with
  | dispatch key =>
    cases hdecode
    exact ⟨_, step_placeWord_dispatch s key, rfl, rfl, rfl, rfl, rfl, rfl, rfl, rfl, rfl, rfl⟩
  | host w =>
    exact ⟨_, step_of_turn rfl (fetchFor_producer_of_decode rfl rfl hdecode),
      rfl, rfl, rfl, rfl, rfl, rfl, rfl, rfl, rfl, rfl⟩
  | env e =>
    exact ⟨_, step_of_turn rfl (fetchFor_environment_of_decode rfl hdecode),
      rfl, rfl, rfl, rfl, rfl, rfl, rfl, rfl, rfl, rfl⟩

end Sys2Proof.Machine
end

section
/-! Scripts queued on the machine (30_encoding R57; logs 1 and 15): what runs does not read the queues. O53. -/

namespace Sys2Proof.Machine

/-! ### The queues stand apart -/

/-- `r`, where it is a next state, with other queues. -/
def Result.withQueues (r : Result) (hc : List HostWord) (be : List EnvWord) (ts : List Agent) : Result :=
  r.andThen fun t => .next (t.withQueues hc be ts)

/-- The operation `f` neither reads nor writes the queues. -/
def QueueBlind (f : State → Result) : Prop :=
  ∀ (s : State) (hc : List HostWord) (be : List EnvWord) (ts : List Agent),
    f (s.withQueues hc be ts) = (f s).withQueues hc be ts

theorem QueueBlind.andThen {f g : State → Result} (hf : QueueBlind f) (hg : QueueBlind g) :
    QueueBlind fun s => (f s).andThen g := fun s hc be ts => by
  dsimp only
  rw [hf s hc be ts]
  cases f s with
  | next t => exact hg t hc be ts
  | fault e => rfl
  | refused e => rfl

theorem QueueBlind.ite {c : State → Prop} [DecidablePred c] {f g : State → Result}
    (hcond : ∀ s hc be ts, c (State.withQueues s hc be ts) ↔ c s) (hf : QueueBlind f) (hg : QueueBlind g) :
    QueueBlind fun s => if c s then f s else g s := fun s hc be ts => by
  by_cases h : c s
  · simp only [if_pos h, if_pos ((hcond s hc be ts).mpr h), hf s hc be ts]
  · simp only [if_neg h, if_neg (mt (hcond s hc be ts).mp h), hg s hc be ts]

theorem queueBlind_next {g : State → State}
    (h : ∀ s hc be ts, g (State.withQueues s hc be ts) = (g s).withQueues hc be ts) :
    QueueBlind fun s => .next (g s) := fun s hc be ts => congrArg Host.Outcome.next (h s hc be ts)

theorem queueBlind_fault (e : Fault) : QueueBlind fun _ => .fault e := fun _ _ _ _ => rfl

theorem queueBlind_refused (e : Refusal) : QueueBlind fun _ => .refused e := fun _ _ _ _ => rfl

/-! ### The handler's operations -/

theorem queueBlind_takeInterrupt {action : State → Result} (h : QueueBlind action) :
    QueueBlind (takeInterrupt action) :=
  .ite (fun _ _ _ _ => Iff.rfl)
    (.ite (fun _ _ _ _ => Iff.rfl) (h.andThen (queueBlind_next fun _ _ _ _ => rfl))
      (queueBlind_next fun _ _ _ _ => rfl))
    (queueBlind_refused _)

theorem queueBlind_noAction (why : Refusal) : QueueBlind (noAction why) :=
  .ite (fun _ _ _ _ => Iff.rfl) (queueBlind_refused _) (queueBlind_refused _)

theorem queueBlind_txNext : QueueBlind txNext :=
  .ite (fun _ _ _ _ => Iff.rfl) (queueBlind_next fun _ _ _ _ => rfl) (queueBlind_fault _)

theorem queueBlind_txCheck : QueueBlind txCheck :=
  .ite (fun _ _ _ _ => Iff.rfl) (queueBlind_next fun _ _ _ _ => rfl)
    (.ite (fun _ _ _ _ => Iff.rfl) queueBlind_txNext (queueBlind_next fun _ _ _ _ => rfl))

theorem processAddress_withQueues (s : State) (hc : List HostWord) (be : List EnvWord) (ts : List Agent) :
    processAddress (s.withQueues hc be ts) = (processAddress s).withQueues hc be ts := by
  by_cases h : s.sr = fold s.devAddr s.sr
  · rw [processAddress_match h, processAddress_match (s := s.withQueues hc be ts) h]
  · rw [processAddress_mismatch h, processAddress_mismatch (s := s.withQueues hc be ts) h]

theorem queueBlind_exec_handler {i : Instr} (hi : isHandlerAction i = true) : QueueBlind (exec i) := by
  cases i with
  | hStart c =>
    refine queueBlind_takeInterrupt (queueBlind_next fun s hc be ts => ?_)
    rw [addressAction_startOverride, addressAction_startOverride]
    rfl
  | hProcessAddress => exact queueBlind_takeInterrupt (queueBlind_next processAddress_withQueues)
  | hIdle | hAddress | hRxCheck | hAckNack =>
    exact queueBlind_takeInterrupt (queueBlind_next fun _ _ _ _ => rfl)
  | hTxData => exact queueBlind_takeInterrupt queueBlind_txNext
  | hTxCheck => exact queueBlind_takeInterrupt queueBlind_txCheck
  | hRxData | hIllegal x => exact queueBlind_noAction _
  | _ => nomatch hi

/-! ### The producer's operations -/

theorem queueBlind_memWrite (k : Nat) (b : Byte) : QueueBlind (memWrite k b) :=
  .ite (fun _ _ _ _ => Iff.rfl) (queueBlind_next fun _ _ _ _ => rfl) (queueBlind_fault _)

theorem queueBlind_writeAll (ws : List (Nat × Byte)) : QueueBlind (writeAll ws) := by
  induction ws with
  | nil => exact queueBlind_next fun _ _ _ _ => rfl
  | cons w rest ih => exact (queueBlind_memWrite w.1 w.2).andThen ih

theorem writeNext_of_nil {s : State} (h : s.pendingWrites = []) : writeNext s = .next s := by
  simp only [writeNext, h]

theorem writeNext_of_cons {s : State} {w : Nat × Byte} {rest : List (Nat × Byte)}
    (h : s.pendingWrites = w :: rest) : writeNext s = memWrite w.1 w.2 { s with pendingWrites := rest } := by
  simp only [writeNext, h]

theorem queueBlind_writeNext : QueueBlind writeNext := fun s hc be ts => by
  cases h : s.pendingWrites with
  | nil =>
    rw [writeNext_of_nil h, writeNext_of_nil (s := s.withQueues hc be ts) h]
    rfl
  | cons w rest =>
    rw [writeNext_of_cons h, writeNext_of_cons (s := s.withQueues hc be ts) h]
    exact queueBlind_memWrite w.1 w.2 { s with pendingWrites := rest } hc be ts

theorem queueBlind_startWrites (ws : List (Nat × Byte)) : QueueBlind (startWrites ws) :=
  .ite (fun _ _ _ _ => Iff.rfl) (fun s hc be ts => queueBlind_writeAll _ { s with pendingWrites := [] } hc be ts)
    (fun s hc be ts => queueBlind_writeNext { s with pendingWrites := s.pendingWrites ++ ws } hc be ts)

theorem queueBlind_packBytes (bytes : List Byte) : QueueBlind (packBytes bytes) :=
  .ite (fun _ _ _ _ => Iff.rfl) (queueBlind_startWrites _) (queueBlind_refused _)

theorem queueBlind_maskInterrupts : QueueBlind maskInterrupts :=
  .ite (fun _ _ _ _ => Iff.rfl) (queueBlind_refused _) (queueBlind_next fun _ _ _ _ => rfl)

theorem queueBlind_publish (bytes : List Byte) : QueueBlind (publish bytes) :=
  .ite (fun _ _ _ _ => Iff.rfl)
    (queueBlind_maskInterrupts.andThen
      ((queueBlind_packBytes bytes).andThen (queueBlind_next fun _ _ _ _ => rfl)))
    (queueBlind_refused _)

theorem queueBlind_execHostInit (a : Nat) : QueueBlind (execHostInit a) :=
  .ite (fun _ _ _ _ => Iff.rfl) (queueBlind_refused _)
    (.ite (fun _ _ _ _ => Iff.rfl) (queueBlind_refused _) (queueBlind_next fun _ _ _ _ => rfl))

theorem queueBlind_exec_producer {i : Instr} (hi : isProducerCall i = true) : QueueBlind (exec i) := by
  cases i with
  | hostInit a => exact queueBlind_execHostInit a
  | setTransmitValue16 v | setTransmitValue32 v => exact queueBlind_publish _
  | pack16 v | pack32 v => exact queueBlind_packBytes _
  | unpack16 b0 b1 | unpack32 b0 b1 b2 b3 => exact queueBlind_next fun _ _ _ _ => rfl
  | irqMask => exact queueBlind_maskInterrupts
  | irqRestore => exact queueBlind_next fun _ _ _ _ => rfl
  | _ => nomatch hi

/-! ### The environment's events -/

theorem shiftBit_withQueues (line : Bool) (s : State) (hc : List HostWord) (be : List EnvWord)
    (ts : List Agent) : shiftBit line (s.withQueues hc be ts) = (shiftBit line s).withQueues hc be ts := by
  unfold shiftBit
  dsimp only
  split <;> rfl

/-- A clock that is not held. A held one goes back to the queue (44_environment R109; log 2). -/
theorem exec_envClock_withQueues (m : Bool) {s : State} (hfree : s.clockHeld = false) (hc : List HostWord)
    (be : List EnvWord) (ts : List Agent) :
    exec (.envClock m) (s.withQueues hc be ts) = Result.withQueues (exec (.envClock m) s) hc be ts := by
  by_cases hcnt : s.cnt = 0#4
  · rw [exec_envClock_unarmed m hfree hcnt, exec_envClock_unarmed m (s := s.withQueues hc be ts) hfree hcnt]
    rfl
  · rw [exec_envClock_armed m hfree hcnt, exec_envClock_armed m (s := s.withQueues hc be ts) hfree hcnt,
      shiftBit_withQueues]
    rfl

/-- A statement that is enabled neither reads nor writes the queues. -/
theorem Statement.run_withQueues (st : Statement) {s : State} (henabled : st.enabled s = true)
    (hc : List HostWord) (be : List EnvWord) (ts : List Agent) :
    st.run (s.withQueues hc be ts) = Result.withQueues (st.run s) hc be ts := by
  cases st with
  | init a => exact queueBlind_exec_producer (i := .hostInit a) rfl s hc be ts
  | set16 v => exact queueBlind_exec_producer (i := .setTransmitValue16 v) rfl s hc be ts
  | set32 v => exact queueBlind_exec_producer (i := .setTransmitValue32 v) rfl s hc be ts
  | pack16 v => exact queueBlind_exec_producer (i := .pack16 v) rfl s hc be ts
  | pack32 v => exact queueBlind_exec_producer (i := .pack32 v) rfl s hc be ts
  | mask => exact queueBlind_exec_producer (i := .irqMask) rfl s hc be ts
  | restore => exact queueBlind_exec_producer (i := .irqRestore) rfl s hc be ts
  | start | stop => rfl
  | clk m => exact exec_envClock_withQueues m (by simpa [Statement.enabled] using henabled) hc be ts
  | irq => exact queueBlind_exec_handler (decodeDispatch_isHandlerAction _) s hc be ts
  | more => exact queueBlind_writeNext s hc be ts

/-- An enabled statement leaves empty queues empty. -/
theorem Statement.run_keeps_empty_queues {st : Statement} {s t : State} (henabled : st.enabled s = true)
    (hrun : st.run s = .next t) (hempty : s.withQueues [] [] [] = s) : t.withQueues [] [] [] = t := by
  have h : st.run (s.withQueues [] [] []) = Result.withQueues (st.run s) [] [] [] :=
    st.run_withQueues henabled [] [] []
  rw [hempty, hrun] at h
  exact (Host.Outcome.next.inj h).symm

/-! ### What a script puts into the queues -/

/-- The words that a statement adds to the producer's queue. -/
def Statement.hostWords (st : Statement) : List HostWord :=
  match st.word with
  | some (.host w) => [w]
  | _ => []

/-- The words that a statement adds to the queue of bus events. -/
def Statement.busWords (st : Statement) : List EnvWord :=
  match st.word with
  | some (.env e) => [e]
  | _ => []

theorem queueStatement_eq (s : State) (st : Statement) :
    queueStatement s st =
      s.withQueues (s.hostCalls ++ st.hostWords) (s.busEvents ++ st.busWords) (s.turns ++ [st.agent]) := by
  unfold queueStatement Statement.hostWords Statement.busWords
  rcases st.word with _ | (key | w | e) <;> simp

theorem withScript_eq (s : State) (p : List Statement) :
    s.withScript p =
      s.withQueues (s.hostCalls ++ p.flatMap Statement.hostWords) (s.busEvents ++ p.flatMap Statement.busWords)
        (s.turns ++ p.map Statement.agent) := by
  induction p generalizing s with
  | nil => simp [State.withScript]
  | cons st rest ih =>
    rw [State.withScript, List.foldl_cons, ← State.withScript, ih, queueStatement_eq]
    simp

/-! ### One step runs one statement -/

section
variable {i : Instr} {s : State} {hc : List HostWord} {be : List EnvWord} {ts : List Agent}

theorem step_queued_call {w : HostWord} (hwf : i.wf = true) (hword : encode i = .host w)
    (hpending : s.pendingWrites = []) :
    step (s.withQueues (w :: hc) be (.producer :: ts)) = exec i (s.withQueues hc be ts) :=
  step_of_turn rfl (fetchFor_producer_of_decode hpending rfl (hword ▸ decodeUndoesEncode i hwf))

theorem step_queued_event {e : EnvWord} (hwf : i.wf = true) (hword : encode i = .env e) :
    step (s.withQueues hc (e :: be) (.environment :: ts)) = exec i (s.withQueues hc be ts) :=
  step_of_turn rfl (fetchFor_environment_of_decode rfl (hword ▸ decodeUndoesEncode i hwf))

theorem step_queued_write (hpending : s.pendingWrites ≠ []) :
    step (s.withQueues hc be (.producer :: ts)) = writeNext (s.withQueues hc be ts) := by
  obtain ⟨w, rest, hw⟩ := List.exists_cons_of_ne_nil hpending
  exact step_of_turn_error rfl (fetchFor_producer_of_pending (s := s.withQueues hc be ts) hw)

end

theorem hostInit_argument_le {a : Nat} {s t : State} (h : execHostInit a s = .next t) : a ≤ 127 := by
  unfold execHostInit at h
  split at h
  · cases h
  · split at h
    · cases h
    · omega

/-- The statement at the head of the queues is what the next step runs (30_encoding R57). -/
theorem step_queued_statement {st : Statement} {s t : State} (henabled : st.enabled s = true)
    (hrun : st.run s = .next t) (hc : List HostWord) (be : List EnvWord) (ts : List Agent) :
    step (s.withQueues (st.hostWords ++ hc) (st.busWords ++ be) (st.agent :: ts)) =
      .next (t.withQueues hc be ts) := by
  have hstep : step (s.withQueues (st.hostWords ++ hc) (st.busWords ++ be) (st.agent :: ts)) =
      st.run (s.withQueues hc be ts) := by
    cases st with
    | init a =>
      have hwf : (Instr.hostInit a).wf = true := decide_eq_true (hostInit_argument_le hrun)
      exact step_queued_call hwf rfl (List.isEmpty_iff.mp henabled)
    | set16 v => exact step_queued_call (i := .setTransmitValue16 v) rfl rfl (List.isEmpty_iff.mp henabled)
    | set32 v => exact step_queued_call (i := .setTransmitValue32 v) rfl rfl (List.isEmpty_iff.mp henabled)
    | pack16 v => exact step_queued_call (i := .pack16 v) rfl rfl (List.isEmpty_iff.mp henabled)
    | pack32 v => exact step_queued_call (i := .pack32 v) rfl rfl (List.isEmpty_iff.mp henabled)
    | mask => exact step_queued_call (i := .irqMask) rfl rfl (List.isEmpty_iff.mp henabled)
    | restore => exact step_queued_call (i := .irqRestore) rfl rfl (List.isEmpty_iff.mp henabled)
    | start => exact step_queued_event (i := .envStart false) rfl rfl
    | clk m => exact step_queued_event (i := .envClock m) rfl rfl
    | stop => exact step_queued_event (i := .envStop false) rfl rfl
    | irq => exact step_of_turn rfl (fetchFor_handler _)
    | more => exact step_queued_write (by simpa [Statement.enabled] using henabled)
  rw [hstep, st.run_withQueues henabled, hrun]
  rfl

/-! ### As many steps run a script -/

theorem scriptWellFormed_cons {st : Statement} {rest : List Statement} {s : State}
    (h : scriptWellFormed (st :: rest) s = true) :
    st.enabled s = true ∧ ∃ t, st.run s = .next t ∧ scriptWellFormed rest t = true := by
  rw [scriptWellFormed, Bool.and_eq_true] at h
  obtain ⟨henabled, h⟩ := h
  split at h
  next t ht => exact ⟨henabled, t, ht, h⟩
  · cases h
  · cases h

theorem run_succ_of_step {M : Host.Core} {s t : M.State} (h : M.step s = .next t) (k : Nat) :
    M.run (k + 1) s = M.run k t := by
  simp only [Host.Core.run, h]

theorem run_queued_script {p : List Statement} {s : State} (hempty : s.withQueues [] [] [] = s)
    (h : scriptWellFormed p s = true) :
    ∃ t : State, runScript p s = .next t ∧
      Host.Core.run Sys2Proof.core p.length
        (s.withQueues (p.flatMap Statement.hostWords) (p.flatMap Statement.busWords) (p.map Statement.agent)) =
          .next t := by
  induction p generalizing s with
  | nil => exact ⟨s, rfl, congrArg Host.Outcome.next hempty⟩
  | cons st rest ih =>
    obtain ⟨henabled, u, hrun, hrest⟩ := scriptWellFormed_cons h
    obtain ⟨t, hscript, hsteps⟩ := ih (Statement.run_keeps_empty_queues henabled hrun hempty) hrest
    refine ⟨t, ?_, ?_⟩
    · rw [runScript, hrun]
      exact hscript
    · exact (run_succ_of_step (M := Sys2Proof.core) (step_queued_statement henabled hrun _ _ _) _).trans hsteps

/-- Settles O53: on empty queues the script is all there is in them, and each step takes one statement off. -/
theorem queuedScriptRunsAsWritten : Obligations.QueuedScriptRunsAsWritten := by
  intro s p hturns hcalls hevents hwf
  have hempty : s.withQueues [] [] [] = s := by rw [State.withQueues, ← hturns, ← hcalls, ← hevents]
  obtain ⟨t, hscript, hsteps⟩ := run_queued_script hempty hwf
  refine ⟨t, hscript, ?_⟩
  rw [withScript_eq, hturns, hcalls, hevents]
  exact hsteps

end Sys2Proof.Machine
end

section
/-! Armed groups of clocks (44_environment R107, R111) as parts of scripts that run. -/

namespace Sys2Proof.Machine

/-! ### Scripts that run to their end -/

/-- The script `p` is well formed where it starts, in `s`, and ends in `t`. -/
structure Runs (p : List Statement) (s t : State) : Prop where
  wellFormed : scriptWellFormed p s = true
  ends : runScript p s = .next t

theorem Runs.nil (s : State) : Runs [] s s := ⟨rfl, rfl⟩

theorem Runs.cons {st : Statement} {p : List Statement} {s t u : State} (henabled : st.enabled s = true)
    (hrun : st.run s = .next t) (h : Runs p t u) : Runs (st :: p) s u where
  wellFormed := by simp only [scriptWellFormed, henabled, hrun, h.wellFormed, Bool.and_self]
  ends := by rw [runScript, hrun, Result.andThen_next, h.ends]

theorem Runs.single {st : Statement} {s t : State} (henabled : st.enabled s = true) (hrun : st.run s = .next t) :
    Runs [st] s t := .cons henabled hrun (.nil t)

theorem Runs.append {p q : List Statement} {s t u : State} (hp : Runs p s t) (hq : Runs q t u) :
    Runs (p ++ q) s u := by
  induction p generalizing s with
  | nil =>
    obtain rfl : s = t := Host.Outcome.next.inj hp.ends
    exact hq
  | cons st rest ih =>
    obtain ⟨henabled, v, hrun, hrest⟩ := scriptWellFormed_cons hp.wellFormed
    have hends := hp.ends
    rw [runScript, hrun, Result.andThen_next] at hends
    exact .cons henabled hrun (ih ⟨hrest, hends⟩)

/-! ### Groups of clocks -/

/-- The values of the line in a group of clocks in which the master drives `ms`, with the engine driving (`oe`)
from `sr` or listening (44_environment R107). -/
def groupLines (oe : Bool) (sr : Byte) (ms : List Bool) : List Bool :=
  match ms with
  | [] => []
  | m :: rest =>
    let line := (if oe then sr.getLsbD 7 else true) && m
    line :: groupLines oe (shiftIn sr line) rest

/-- `s` after an armed group of clocks has put `sr` into `SR` and `entries` on the trace. -/
def State.received (s : State) (sr : Byte) (entries : List WireEntry) : State :=
  { s with sr := sr, cnt := 0#4, ifg := true, wire := s.wire ++ entries }

/-- `s` after an armed group of clocks in which the line took the values `lines`. -/
def State.afterGroup (s : State) (lines : List Bool) : State :=
  s.received (lines.foldl shiftIn s.sr) (lines.map fun line => .clock line s.oe)

theorem shiftBit_more {line : Bool} {s : State} (h : s.cnt - 1 ≠ 0#4) :
    shiftBit line s = { s with sr := shiftIn s.sr line, cnt := s.cnt - 1 } := if_neg h

theorem shiftBit_last {line : Bool} {s : State} (h : s.cnt - 1 = 0#4) :
    shiftBit line s = { s with sr := shiftIn s.sr line, cnt := 0#4, ifg := true } :=
  (if_pos h).trans (by rw [h]; rfl)

/-- As many clocks as are armed, all of them enabled, shift their bits and raise `IFG` (R111). -/
theorem runs_group {ms : List Bool} {s : State} (hfree : s.clockHeld = false) (harmed : s.cnt ≠ 0#4)
    (hlen : ms.length = s.cnt.toNat) :
    Runs (ms.map .clk) s (s.afterGroup (groupLines s.oe s.sr ms)) := by
  induction ms generalizing s with
  | nil => exact absurd (BitVec.eq_of_toNat_eq hlen.symm) harmed
  | cons m rest ih =>
    have henabled : (Statement.clk m).enabled s = true := by simp [Statement.enabled, hfree]
    have hrun : (Statement.clk m).run s = .next (traceWire (.clock (s.line m) s.oe) (shiftBit (s.line m) s)) :=
      exec_envClock_armed m hfree harmed
    have hrest : rest.length = (s.cnt - 1).toNat := by
      rw [List.length_cons] at hlen
      bv_omega
    by_cases hlast : s.cnt - 1 = 0#4
    · obtain rfl : rest = [] := List.length_eq_zero_iff.mp (by rw [hrest, hlast]; rfl)
      rw [shiftBit_last hlast] at hrun
      exact .single henabled hrun
    · rw [shiftBit_more hlast] at hrun
      have hgroup := ih (s := traceWire (.clock (s.line m) s.oe)
        { s with sr := shiftIn s.sr (s.line m), cnt := s.cnt - 1 }) hfree hlast hrest
      have hafter : (traceWire (.clock (s.line m) s.oe)
          { s with sr := shiftIn s.sr (s.line m), cnt := s.cnt - 1 }).afterGroup
            (groupLines s.oe (shiftIn s.sr (s.line m)) rest) =
          s.afterGroup (groupLines s.oe s.sr (m :: rest)) := by
        simp only [State.afterGroup, State.received, traceWire, List.append_assoc]
        rfl
      exact .cons henabled hrun (hafter ▸ hgroup)

/-- With the engine listening the line is what the master drives. -/
@[simp] theorem groupLines_listening (sr : Byte) (ms : List Bool) : groupLines false sr ms = ms := by
  induction ms generalizing sr with
  | nil => rfl
  | cons m rest ih => simp [groupLines, ih]

end Sys2Proof.Machine
end

section
/-! The blocks of a read transaction, from one armed group to the next (30_encoding R58), and O54 from them. -/

namespace Sys2Proof.Machine

/-! ### Bytes on the line -/

/-- The bits of a byte in the order they are on the line (20_memory R33). -/
def byteBits (b : Byte) : List Bool :=
  [b.getLsbD 7, b.getLsbD 6, b.getLsbD 5, b.getLsbD 4, b.getLsbD 3, b.getLsbD 2, b.getLsbD 1, b.getLsbD 0]

@[simp] theorem shiftIn_getElem_zero (sr : Byte) (line : Bool) : (shiftIn sr line)[0] = line := by
  cases line <;> simp [shiftIn]

@[simp] theorem shiftIn_getElem_succ (sr : Byte) (line : Bool) {i : Nat} (hi : i + 1 < 8) :
    (shiftIn sr line)[i + 1] = sr[i] := by
  cases line <;> simp [shiftIn]

/-- Eight shifts replace the whole of `SR`. -/
@[simp] theorem foldl_shiftIn_byteBits (sr b : Byte) : (byteBits b).foldl shiftIn sr = b := by
  apply BitVec.eq_of_getLsbD_eq
  intro i hi
  interval_cases i <;> simp [byteBits]

/-- While the engine drives a byte the line is the AND of its bits and the master's (70_reset R149). -/
theorem groupLines_driving (sr b : Byte) : groupLines true sr (byteBits b) = byteBits (b &&& sr) := by
  simp [groupLines, byteBits, Bool.and_comm]

theorem afterGroup_byteBits (s : State) (r : Byte) :
    s.afterGroup (byteBits r) = s.received r (byteEntries s.oe r) := by
  rw [State.afterGroup, foldl_shiftIn_byteBits]
  rfl

/-- Eight clocks, with eight bits armed: the byte `r` on the line is the master's `b` with the engine listening,
and the AND of `b` and `SR` with the engine driving (44_environment R111, 70_reset R149). -/
theorem runs_scriptByte {b r : Byte} {s : State} (hfree : s.clockHeld = false) (harmed : s.cnt = 8#4)
    (hr : (if s.oe then b &&& s.sr else b) = r) :
    Runs (scriptByte b) s (s.received r (byteEntries s.oe r)) := by
  have hlines : groupLines s.oe s.sr (byteBits b) = byteBits r := by
    rw [← hr]
    cases s.oe with
    | false => exact groupLines_listening _ _
    | true => exact groupLines_driving _ _
  rw [← afterGroup_byteBits, ← hlines]
  exact runs_group (ms := byteBits b) hfree (by simp [harmed]) (by simp [harmed, byteBits])

/-! ### Invocations of the handler -/

/-- `s` after a start condition and the invocation that it requests. -/
def State.restarted (s : State) : State :=
  { s with
    state := StateCode.processAddress, dataIdx := 0#3, devAddr := s.canon, cnt := 8#4, sttifg := false
    ifg := false, wire := s.wire ++ [.start] }

/-- A transaction begins so from every state (70_reset R158). -/
theorem runs_start {s : State} (hgie : s.gie = true) (hsttie : s.sttie = true) :
    Runs [.start, .irq] s s.restarted := by
  refine .cons (t := traceWire .start (setStartFlag s)) rfl rfl (.single ?enabled ?run)
  case enabled => simp [Statement.enabled, State.handlerEnabled, State.irq, hgie, hsttie]
  case run =>
    have hirq : (traceWire .start (setStartFlag s)).irq = true := by simp [State.irq, hsttie]
    have hkey : decodeDispatch (traceWire .start (setStartFlag s)).dispatchKey = .hStart s.state :=
      decodeDispatch_hStart s.state
    rw [Statement.run, invokeHandler, hkey, exec_hStart, takeInterrupt_taken _ hirq hgie,
      addressAction_startOverride]
    rfl

/-- A group of bits is complete and nothing keeps the handler from serving it. -/
structure State.Completed (s : State) : Prop where
  noStart : s.sttifg = false
  completion : s.ifg = true
  enabled : s.ie = true
  unmasked : s.gie = true

/-- Serving a completion runs the action that the protocol state selects (40_dispatch R60, R62). -/
theorem runs_irq {s t : State} {action : State → Result} (h : s.Completed)
    (hselect : exec (decodeDispatch (0#1 ++ s.state)) = takeInterrupt action) (haction : action s = .next t) :
    Runs [.irq] s (leaveHandler t) := by
  obtain ⟨hstart, hifg, hie, hgie⟩ := h
  have hirq : s.irq = true := by simp [State.irq, hifg, hie]
  have hkey : s.dispatchKey = 0#1 ++ s.state := by rw [State.dispatchKey, hstart]; rfl
  refine .single ?enabled ?run
  case enabled => simp [Statement.enabled, State.handlerEnabled, hirq, hgie]
  case run => rw [Statement.run, invokeHandler, hkey, hselect, takeInterrupt_taken _ hirq hgie, haction]; rfl

/-! ### The blocks of a transaction -/

/-- The engine has armed a group of bits, with the interrupts on and no flag up. -/
structure State.Waiting (s : State) : Prop where
  noStart : s.sttifg = false
  noCompletion : s.ifg = false
  enabled : s.ie = true
  unmasked : s.gie = true

theorem State.Waiting.clockHeld {s : State} (h : s.Waiting) : s.clockHeld = false := by
  simp [State.clockHeld, h.noStart, h.noCompletion]

section
variable {s : State}

/-- A group of bits and the invocation that serves it. -/
theorem runs_served {p : List Statement} {sr : Byte} {entries : List WireEntry} {t : State}
    {action : State → Result} (h : s.Waiting) (hgroup : Runs p s (s.received sr entries))
    (hselect : exec (decodeDispatch (0#1 ++ s.state)) = takeInterrupt action)
    (haction : action (s.received sr entries) = .next t) : Runs (p ++ [.irq]) s (leaveHandler t) :=
  hgroup.append (runs_irq ⟨h.noStart, rfl, h.enabled, h.unmasked⟩ hselect haction)

/-- One clock, with one bit armed. -/
theorem runs_scriptBit (m : Bool) (h : s.Waiting) (harmed : s.cnt = 1#4) :
    Runs [.clk m] s (s.received (shiftIn s.sr (s.line m)) [.clock (s.line m) s.oe]) :=
  runs_group (ms := [m]) h.clockHeld (by simp [harmed]) (by simp [harmed])

theorem rwFlag_append (a : BitVec 7) (r : Bool) : rwFlag (a ++ BitVec.ofBool r) = r := by
  revert a r; decide

theorem processAddress_own {b : Byte} (hsr : s.sr = b) (hfold : fold s.devAddr s.sr = b) :
    processAddress s = { s with
      devAddr := b, oe := true, sr := 0x00#8, state := StateCode.txData, cnt := 1#4 } := by
  rw [processAddress_match (hsr.trans hfold.symm), hfold]

/-- `s` after the engine has taken up the address byte with its own address and made the ACK ready. -/
def State.addressed (s : State) (r : Bool) : State :=
  { s with
    state := StateCode.txData, devAddr := s.ownAddr ++ BitVec.ofBool r, sr := 0x00#8, cnt := 1#4, oe := true
    ifg := false, wire := s.wire ++ byteEntries s.oe (s.ownAddr ++ BitVec.ofBool r) }

/-- The engine's own address is taken up, with either read/write bit (41_address R72, R73). -/
theorem runs_ownAddress (r : Bool) (h : s.Waiting) (hstate : s.state = StateCode.processAddress)
    (harmed : s.cnt = 8#4) (hoe : s.oe = false) (hcanon : s.devAddr = s.canon) :
    Runs (scriptAddr s.ownAddr r ++ [.irq]) s (s.addressed r) := by
  have hfold : fold s.devAddr (s.ownAddr ++ BitVec.ofBool r) = s.ownAddr ++ BitVec.ofBool r := by
    rw [hcanon, State.canon, fold_canonOf, rwFlag_append]
  have hbyte := runs_scriptByte (b := s.ownAddr ++ BitVec.ofBool r) h.clockHeld harmed (if_neg (by simp [hoe]))
  exact runs_served h hbyte (action := fun t => .next (processAddress t)) (by rw [hstate]; rfl)
    (congrArg Host.Outcome.next (processAddress_own rfl hfold))

/-- `s` after the handler has loaded the byte at the cursor, with `entries` put on the trace before. -/
def State.loaded (s : State) (entries : List WireEntry) : State :=
  { s with
    state := StateCode.ackNack, sr := s.bufByte s.dataIdx.toNat, dataIdx := s.dataIdx + 1, cnt := 8#4
    oe := true, ifg := false, wire := s.wire ++ entries }

/-- The bit that the address was answered with is on the line; then the first byte is loaded (42_transmit R81). -/
theorem runs_firstByte (h : s.Waiting) (hstate : s.state = StateCode.txData) (harmed : s.cnt = 1#4)
    (hin : s.dataIdx.toNat < s.bufLen.n) :
    Runs (scriptRbit ++ [.irq]) s (s.loaded [.clock (s.line true) s.oe]) :=
  runs_served h (runs_scriptBit true h harmed) (by rw [hstate]; rfl) (txNext_in hin)

/-- The engine has a byte armed for the master to read. -/
structure State.Transmitting (s : State) : Prop extends s.Waiting where
  state : s.state = StateCode.ackNack
  armed : s.cnt = 8#4
  driving : s.oe = true

/-- The engine waits for the master's acknowledge bit. -/
structure State.Listening (s : State) : Prop extends s.Waiting where
  state : s.state = StateCode.txCheck
  armed : s.cnt = 1#4
  listening : s.oe = false

theorem State.Waiting.loaded (h : s.Waiting) (entries : List WireEntry) : (s.loaded entries).Transmitting :=
  ⟨⟨h.noStart, rfl, h.enabled, h.unmasked⟩, rfl, rfl, rfl⟩

/-- `s` after the master has read a whole byte and the handler has released the line. -/
def State.byteRead (s : State) : State :=
  { s with
    state := StateCode.txCheck, cnt := 1#4, oe := false, ifg := false, wire := s.wire ++ byteEntries s.oe s.sr }

theorem State.Transmitting.byteRead (h : s.Transmitting) : s.byteRead.Listening :=
  ⟨⟨h.noStart, rfl, h.enabled, h.unmasked⟩, rfl, rfl, rfl⟩

/-- A byte that the engine drives against a released line keeps `SR` (42_transmit R82). -/
theorem runs_drivenByte (h : s.Transmitting) : Runs (scriptRbyte ++ [.irq]) s s.byteRead := by
  have hreleased : (if s.oe then 0xFF#8 &&& s.sr else 0xFF#8) = s.sr :=
    (if_pos h.driving).trans (BitVec.allOnes_and (x := s.sr))
  exact runs_served h.toWaiting (runs_scriptByte h.clockHeld h.armed hreleased)
    (action := fun t => .next { arm .one { t with oe := false } with state := StateCode.txCheck })
    (by rw [h.state]; rfl) rfl

theorem nackBit_shiftIn (sr : Byte) (line : Bool) : nackBit (shiftIn sr line) = line := by
  simp [nackBit]

theorem txCheck_ack (hack : nackBit s.sr = false) (hin : s.dataIdx.toNat < s.bufLen.n) :
    txCheck s = .next (loadByte (s.bufByte s.dataIdx.toNat) s) := by
  simp [txCheck, hack, hin, txNext_in]

theorem txCheck_nack (hnack : nackBit s.sr = true) : txCheck s = .next (endTransaction s) := by
  simp [txCheck, hnack]

/-- The master's acknowledge bit goes to bit 0 of `SR` as it is. -/
theorem runs_acknowledgeBit (m : Bool) (h : s.Listening) :
    Runs [.clk m] s (s.received (shiftIn s.sr m) [.clock m s.oe]) := by
  have hline : s.line m = m := by simp [State.line, State.drive, h.listening]
  have hbit := runs_scriptBit m h.toWaiting h.armed
  rwa [hline] at hbit

/-- The master acknowledges, and the next byte is loaded (42_transmit R84). -/
theorem runs_ack (h : s.Listening) (hin : s.dataIdx.toNat < s.bufLen.n) :
    Runs (scriptAck ++ [.irq]) s (s.loaded [.clock false s.oe]) :=
  runs_served h.toWaiting (runs_acknowledgeBit false h) (by rw [h.state]; rfl)
    (txCheck_ack (nackBit_shiftIn _ _) hin)

/-- The master does not acknowledge, and the transaction ends (42_transmit R84). -/
theorem runs_nack (h : s.Listening) :
    Runs (scriptNack ++ [.irq]) s
      (leaveHandler (endTransaction (s.received (shiftIn s.sr true) [.clock true s.oe]))) :=
  runs_served h.toWaiting (runs_acknowledgeBit true h) (by rw [h.state]; rfl) (txCheck_nack (nackBit_shiftIn _ _))

/-! ### The read script -/

theorem scriptAddressPhase_eq_blocks (a : BitVec 7) (r : Bool) :
    scriptAddressPhase a r =
      [Statement.start, Statement.irq] ++
        ((scriptAddr a r ++ [Statement.irq]) ++ (scriptRbit ++ [Statement.irq])) := by
  simp [scriptAddressPhase]

theorem scriptAckedBytes_succ_eq_blocks (k : Nat) :
    scriptAckedBytes (k + 1) =
      (scriptRbyte ++ [Statement.irq]) ++ ((scriptAck ++ [Statement.irq]) ++ scriptAckedBytes k) := by
  simp [scriptAckedBytes]

theorem scriptRead_eq_blocks (a : BitVec 7) (n : Nat) :
    scriptRead a n =
      scriptAddressPhase a true ++ (scriptAckedBytes (n - 1) ++
        ((scriptRbyte ++ [Statement.irq]) ++ (scriptNack ++ [Statement.irq]))) := by
  simp [scriptRead]

theorem BufLen.n_pos (l : BufLen) : 0 < l.n := by
  cases l <;> decide

/-- The whole address phase, with the engine's own address and the engine not driving: the first byte is armed
(41_address R73). -/
theorem runs_addressPhase (r : Bool) (hoe : s.oe = false) (hgie : s.gie = true) (hsttie : s.sttie = true)
    (hie : s.ie = true) :
    Runs (scriptAddressPhase s.ownAddr r) s ((s.restarted.addressed r).loaded [.clock false true]) := by
  have haddress : Runs (scriptAddr s.ownAddr r ++ [.irq]) s.restarted (s.restarted.addressed r) :=
    runs_ownAddress (s := s.restarted) r ⟨rfl, rfl, hie, hgie⟩ rfl rfl hoe rfl
  have hline : (s.restarted.addressed r).line true = false := by
    simp [State.line, State.drive, State.addressed]
  have hfirst := runs_firstByte (s := s.restarted.addressed r) ⟨rfl, rfl, hie, hgie⟩ rfl rfl s.bufLen.n_pos
  rw [hline] at hfirst
  rw [scriptAddressPhase_eq_blocks]
  exact (runs_start hgie hsttie).append (haddress.append hfirst)

/-- The bytes that the master acknowledges, as many as the buffer has left (42_transmit R85). -/
theorem runs_ackedBytes {k : Nat} (h : s.Transmitting) (hin : s.dataIdx.toNat + k ≤ s.bufLen.n) :
    ∃ t, Runs (scriptAckedBytes k) s t ∧ t.Transmitting := by
  induction k generalizing s with
  | zero => exact ⟨s, .nil s, h⟩
  | succ k ih =>
    have hlen := s.bufLen.n_le_four
    have hleft : (s.dataIdx + 1).toNat + k ≤ s.bufLen.n := by bv_omega
    have hread : Runs (scriptRbyte ++ [.irq]) s s.byteRead := runs_drivenByte h
    have hack : Runs (scriptAck ++ [.irq]) s.byteRead (s.byteRead.loaded [.clock false false]) :=
      runs_ack h.byteRead (show s.dataIdx.toNat < s.bufLen.n by omega)
    obtain ⟨t, hrest, ht⟩ := ih (h.byteRead.toWaiting.loaded [.clock false false]) hleft
    rw [scriptAckedBytes_succ_eq_blocks]
    exact ⟨t, hread.append (hack.append hrest), ht⟩

/-- The read of `n` bytes of the buffer runs to its end (30_encoding R58). -/
theorem runs_scriptRead {n : Nat} (hoe : s.oe = false) (hgie : s.gie = true) (hsttie : s.sttie = true)
    (hie : s.ie = true) (hpos : 1 ≤ n) (hn : n ≤ s.bufLen.n) : ∃ t, Runs (scriptRead s.ownAddr n) s t := by
  have hwaiting : (s.restarted.addressed true).Waiting := ⟨rfl, rfl, hie, hgie⟩
  have hleft : 1 + (n - 1) ≤ s.bufLen.n := by omega
  obtain ⟨t, hacked, ht⟩ := runs_ackedBytes (hwaiting.loaded [.clock false true]) hleft
  rw [scriptRead_eq_blocks]
  exact ⟨_, (runs_addressPhase true hoe hgie hsttie hie).append
    (hacked.append ((runs_drivenByte ht).append (runs_nack ht.byteRead)))⟩

end

/-- Settles O54: the read script runs block by block, from a state in which the engine does not drive the line. -/
theorem readScriptIsWellFormed : Obligations.ReadScriptIsWellFormed := by
  intro s n hready hgie hsttie hie hpos hn
  obtain ⟨t, h⟩ := runs_scriptRead hready.released hgie hsttie hie hpos hn
  exact h.wellFormed

end Sys2Proof.Machine
end

section
/-! The dispatcher: invocations that are taken, the operations without an action, and the table of R66 (40_dispatch
R62 to R66). O12, O16, O20, O21 and O46. -/

namespace Sys2Proof.Machine

/-! ### The exit, and the operations that do nothing -/

/-- Settles O12: the invocation is taken, and its exit is all there is to it. -/
theorem idleActionDoesNothing : Obligations.IdleActionDoesNothing := by
  intro s hirq hgie
  rw [exec_hIdle, takeInterrupt_taken _ hirq hgie]
  rfl

theorem noAction_requested (why : Refusal) {s : State} (h : s.irq = true) : noAction why s = .refused why :=
  if_pos h

/-- Settles O16: both operations have no action, and a flag is pending. -/
theorem reservedAndIllegalStatesAreRefused : Obligations.ReservedAndIllegalStatesAreRefused :=
  fun _ hirq => ⟨noAction_requested _ hirq, fun _ => noAction_requested _ hirq⟩

/-- The start flag is the ADDRESS action's to write, and no other action's (60_exceptions R127). -/
theorem HandlerEffect.sttifg {s u : State} {i : Instr} (h : HandlerEffect s i u) (hstart : ∀ cccc, i ≠ .hStart cccc)
    (haddress : i ≠ .hAddress) : u.sttifg = s.sttifg := by
  cases h with
  | start cccc => exact absurd rfl (hstart cccc)
  | address => exact absurd rfl haddress
  | _ => rfl

/-- Settles O21: with `GIE = 1` the invocation is taken, so it ends with the exit of the handler. -/
theorem handlerExitClearsTheCompletionFlag : Obligations.HandlerExitClearsTheCompletionFlag := by
  intro i s t hi hgie h
  obtain ⟨-, ⟨-, u, heffect, rfl⟩ | ⟨hmasked, -⟩⟩ := exec_handler_cases hi h
  · exact ⟨leaveHandler_ifg u, heffect.sttifg⟩
  · simp [hgie] at hmasked

/-! ### What an invocation refuses -/

theorem Result.andThen_eq_refused {r : Result} {f : State → Result} {e : Refusal}
    (h : Result.andThen r f = .refused e) : r = .refused e ∨ ∃ u, r = .next u ∧ f u = .refused e := by
  cases r with
  | next u => exact .inr ⟨u, rfl, h⟩
  | fault e' => cases h
  | refused e' => exact .inl h

/-- An invocation is refused by its action, or for want of a pending flag (60_exceptions R126). -/
theorem takeInterrupt_eq_refused {action : State → Result} {s : State} {e : Refusal}
    (h : takeInterrupt action s = .refused e) :
    action s = .refused e ∨ s.irq = false ∧ e = .handlerWithoutPendingFlag := by
  unfold takeInterrupt at h
  split at h
  · split at h
    · rcases Result.andThen_eq_refused h with h | ⟨u, -, h⟩
      · exact .inl h
      · cases h
    · cases h
  next hoff =>
    cases h
    exact .inr ⟨by simpa using hoff, rfl⟩

theorem txNext_ne_refused (s : State) (e : Refusal) : txNext s ≠ .refused e := by
  unfold txNext
  split <;> exact nofun

theorem txCheck_ne_refused (s : State) (e : Refusal) : txCheck s ≠ .refused e := by
  unfold txCheck
  split
  · exact nofun
  · split
    · exact txNext_ne_refused s e
    · exact nofun

/-- The operations of the states that have no action (40_dispatch R64, R65). -/
def hasAction : Instr → Bool
  | .hRxData => false
  | .hIllegal _ => false
  | _ => true

/-- An operation with an action is refused for want of a pending flag only. -/
theorem exec_handler_refused {i : Instr} {s : State} {e : Refusal} (hi : isHandlerAction i = true)
    (haction : hasAction i = true) (h : exec i s = .refused e) :
    s.irq = false ∧ e = .handlerWithoutPendingFlag := by
  cases i with
  | hStart cccc => exact (takeInterrupt_eq_refused ((exec_hStart cccc s).symm.trans h)).resolve_left nofun
  | hIdle => exact (takeInterrupt_eq_refused ((exec_hIdle s).symm.trans h)).resolve_left nofun
  | hAddress => exact (takeInterrupt_eq_refused ((exec_hAddress s).symm.trans h)).resolve_left nofun
  | hProcessAddress => exact (takeInterrupt_eq_refused ((exec_hProcessAddress s).symm.trans h)).resolve_left nofun
  | hRxCheck => exact (takeInterrupt_eq_refused ((exec_hRxCheck s).symm.trans h)).resolve_left nofun
  | hAckNack => exact (takeInterrupt_eq_refused ((exec_hAckNack s).symm.trans h)).resolve_left nofun
  | hTxData => exact (takeInterrupt_eq_refused h).resolve_left (txNext_ne_refused s e)
  | hTxCheck => exact (takeInterrupt_eq_refused h).resolve_left (txCheck_ne_refused s e)
  | hRxData | hIllegal xxx => nomatch haction
  | _ => nomatch hi

/-- A start is pending, or the protocol state is one that has an action (40_dispatch R61, R64, R65). -/
def State.NamesAction (s : State) : Prop :=
  s.sttifg = true ∨ (s.state.getLsbD 0 = false ∧ s.state ≠ 8#4)

/-- The dispatch key then selects an operation with an action (30_encoding R47). -/
theorem State.NamesAction.hasAction {s : State} (h : s.NamesAction) :
    hasAction (decodeDispatch s.dispatchKey) = true := by
  have hkeys : ∀ (f : Bool) (st : StateCode), f = true ∨ (st.getLsbD 0 = false ∧ st ≠ 8#4) →
      Machine.hasAction (decodeDispatch (BitVec.ofBool f ++ st)) = true := by decide
  exact hkeys _ _ h

theorem invokeHandler_refused {s : State} {e : Refusal} (hnamed : s.NamesAction)
    (h : invokeHandler s = .refused e) : s.irq = false ∧ e = .handlerWithoutPendingFlag :=
  exec_handler_refused (decodeDispatch_isHandlerAction _) hnamed.hasAction h

/-! ### The transition table -/

/-- An invocation that is taken answers a next state when the state names an action and TX_DATA has a byte to load;
what it answers is the effect of the selected operation, and the exit. -/
theorem invokeHandler_taken {s : State} (hirq : s.irq = true) (hgie : s.gie = true) (hnamed : s.NamesAction)
    (hbyte : s.state = StateCode.txData → s.dataIdx.toNat < s.bufLen.n) :
    ∃ u, HandlerEffect s (decodeDispatch s.dispatchKey) u ∧ invokeHandler s = .next (leaveHandler u) := by
  have hi : isHandlerAction (decodeDispatch s.dispatchKey) = true := decodeDispatch_isHandlerAction _
  cases h : invokeHandler s with
  | next t =>
    obtain ⟨-, ⟨-, u, heffect, rfl⟩ | ⟨hmasked, -⟩⟩ := exec_handler_cases hi h
    · exact ⟨u, heffect, rfl⟩
    · simp [hgie] at hmasked
  | fault e =>
    obtain ⟨htx, hout⟩ := exec_handler_fault hi h
    obtain ⟨-, hstate⟩ := flag_and_state_of_dispatched (s := s) (c := StateCode.txData) (by rw [htx]; rfl)
    exact absurd (hbyte hstate) (by omega)
  | refused e =>
    obtain ⟨hoff, -⟩ := invokeHandler_refused hnamed h
    simp [hirq] at hoff

/-- Only a pending start selects the start override (30_encoding R47). -/
theorem sttifg_of_hStart {s : State} {cccc : StateCode} (h : decodeDispatch s.dispatchKey = .hStart cccc) :
    s.sttifg = true := by
  have hkeys : ∀ (f : Bool) (st c : StateCode),
      decodeDispatch (BitVec.ofBool f ++ st) = .hStart c → f = true := by decide
  exact hkeys _ _ _ h

/-- Settles O20: the dispatched operation's effect is that of one row, and no other row has its flag and state. -/
theorem handlerFollowsTheTransitionTable : Obligations.HandlerFollowsTheTransitionTable := by
  intro s hirq hgie hbyte hnamed
  obtain ⟨u, heffect, hnext⟩ := invokeHandler_taken hirq hgie hnamed hbyte
  refine ⟨leaveHandler u, hnext, ?rows⟩
  have hserved : ∀ c, servedState (decodeDispatch s.dispatchKey) = some c → s.sttifg = false ∧ s.state = c :=
    fun _ => flag_and_state_of_dispatched
  generalize hi : decodeDispatch s.dispatchKey = i at heffect hserved
  cases heffect with
  | start cccc => simp [sttifg_of_hStart hi]
  | idle | address | rxCheck | txData | ackNack => simp [hserved _ rfl]
  | addressMatch hmatch => simp [hserved _ rfl, hmatch.symm]
  | addressMismatch hmismatch => simp [hserved _ rfl, hmismatch]
  | txEnd hend =>
    rcases hend with hnack | hout
    · have hbit : s.sr[0] = true := hnack
      simp [hserved _ rfl, hbit]
    · simp [hserved _ rfl, hout]
  | txNext hack hin =>
    have hbit : s.sr[0] = false := hack
    simp [hserved _ rfl, hbit, hin.ne]

/-! ### Refusals of the other agents -/

/-- What a call of the producer can be refused for (43_codec_host R95, R98, R99). -/
def producerRefusals : List Refusal := [.nestedCriticalSection, .widthMismatch, .reinitialize, .addressOutOfRange]

theorem memWrite_ne_refused (k : Nat) (v : Byte) (s : State) (e : Refusal) : memWrite k v s ≠ .refused e := by
  unfold memWrite
  split <;> exact nofun

theorem writeAll_ne_refused (ws : List (Nat × Byte)) (s : State) (e : Refusal) : writeAll ws s ≠ .refused e := by
  induction ws generalizing s with
  | nil => exact nofun
  | cons w rest ih =>
    intro h
    rcases Result.andThen_eq_refused h with h | ⟨u, -, h⟩
    · exact memWrite_ne_refused _ _ _ _ h
    · exact ih u h

theorem writeNext_ne_refused (s : State) (e : Refusal) : writeNext s ≠ .refused e := by
  unfold writeNext
  split
  · exact nofun
  · exact memWrite_ne_refused _ _ _ e

theorem startWrites_ne_refused (ws : List (Nat × Byte)) (s : State) (e : Refusal) :
    startWrites ws s ≠ .refused e := by
  unfold startWrites
  split
  · exact writeAll_ne_refused _ _ e
  · exact writeNext_ne_refused _ e

theorem packBytes_refused {bytes : List Byte} {s : State} {e : Refusal} (h : packBytes bytes s = .refused e) :
    e ∈ producerRefusals := by
  unfold packBytes at h
  split at h
  · exact absurd h (startWrites_ne_refused _ _ _)
  · cases h
    decide

theorem maskInterrupts_refused {s : State} {e : Refusal} (h : maskInterrupts s = .refused e) :
    e ∈ producerRefusals := by
  unfold maskInterrupts at h
  split at h <;> cases h
  decide

theorem publish_refused {bytes : List Byte} {s : State} {e : Refusal} (h : publish bytes s = .refused e) :
    e ∈ producerRefusals := by
  unfold publish at h
  split at h
  · rcases Result.andThen_eq_refused h with h | ⟨u, -, h⟩
    · exact maskInterrupts_refused h
    · rcases Result.andThen_eq_refused h with h | ⟨v, -, h⟩
      · exact packBytes_refused h
      · cases h
  · cases h
    decide

theorem execHostInit_refused {a : Nat} {s : State} {e : Refusal} (h : execHostInit a s = .refused e) :
    e ∈ producerRefusals := by
  unfold execHostInit at h
  split at h
  · cases h
    decide
  · split at h <;> cases h
    decide

theorem exec_producer_refused {i : Instr} {s : State} {e : Refusal} (hi : isProducerCall i = true)
    (h : exec i s = .refused e) : e ∈ producerRefusals := by
  cases i with
  | hostInit a => exact execHostInit_refused h
  | setTransmitValue16 v => exact publish_refused h
  | setTransmitValue32 v => exact publish_refused h
  | pack16 v => exact packBytes_refused h
  | pack32 v => exact packBytes_refused h
  | unpack16 b0 b1 => cases h
  | unpack32 b0 b1 b2 b3 => cases h
  | irqMask => exact maskInterrupts_refused h
  | irqRestore => cases h
  | _ => nomatch hi

theorem execEnvClock_ne_refused (m : Bool) (s : State) (e : Refusal) : execEnvClock m s ≠ .refused e := by
  unfold execEnvClock
  split
  · exact nofun
  · split <;> exact nofun

theorem exec_bus_ne_refused {i : Instr} (s : State) (hi : isBusEvent i = true) (e : Refusal) :
    exec i s ≠ .refused e := by
  cases i with
  | envStart x => exact nofun
  | envClock m => exact execEnvClock_ne_refused m s e
  | envStop x => exact nofun
  | _ => nomatch hi

/-- The refusals of a step whose state names an action: the two of R64 and R65 are not among them. -/
theorem step_refused {s : State} {e : Refusal} (hnamed : s.NamesAction) (h : step s = .refused e) :
    e = .handlerWithoutPendingFlag ∨ e ∈ producerRefusals ∨ ∃ why, e = refusalOf why := by
  obtain ⟨hc, be, ts, hu⟩ := step_cases s
  rcases hu with hu | ⟨i, hi, -, hu⟩ | ⟨i, hi, hu⟩ | hu | hu | ⟨why, hu⟩ <;> rw [hu] at h
  · exact .inl (invokeHandler_refused (s := s.withQueues hc be ts) hnamed h).2
  · exact .inr (.inl (exec_producer_refused hi h))
  · exact absurd h (exec_bus_ne_refused _ hi e)
  · exact absurd h (writeNext_ne_refused _ e)
  · cases h
  · cases h
    exact .inr (.inr ⟨why, rfl⟩)

/-- The states that the handler leaves name actions. -/
theorem EngineInv.namesAction {s : State} (h : EngineInv s) : s.NamesAction := by
  have hresting : ∀ st ∈ restingStates, st.getLsbD 0 = false ∧ st ≠ 8#4 := by decide
  exact .inr (hresting _ h.resting)

/-- Settles O46: under the invariant the state names an action, so a step refuses for other reasons only. -/
theorem reservedStatesAreNeverDispatched : Obligations.ReservedStatesAreNeverDispatched := by
  intro s h
  have hproducer : ∀ e ∈ producerRefusals, e ≠ .rxDataHasNoAction ∧ e ≠ .illegalStateCode := by decide
  have hother : ∀ e, step s = .refused e → e ≠ .rxDataHasNoAction ∧ e ≠ .illegalStateCode := fun e hstep => by
    rcases step_refused h.engine.namesAction hstep with rfl | hmem | ⟨why, rfl⟩
    · decide
    · exact hproducer e hmem
    · cases why <;> decide
  exact ⟨fun hstep => (hother _ hstep).1 rfl, fun hstep => (hother _ hstep).2 rfl⟩

end Sys2Proof.Machine
end

section
/-! The address decoder (41_address R70 to R75): the whole next state of its three actions, the address bits that decide
the match, and the whole address phase. O11, O13, O14, O15 and O51. -/

namespace Sys2Proof.Machine

/-! ### The three actions -/

/-- Settles O11: the override leaves nothing that the ADDRESS action does not write, so both keys run the same. -/
theorem addressActionRestartsTheTransaction : Obligations.AddressActionRestartsTheTransaction := by
  rintro s i (⟨cccc, rfl⟩ | rfl) hirq hgie
  · rw [exec_hStart, takeInterrupt_taken _ hirq hgie, addressAction_startOverride]
    rfl
  · rw [exec_hAddress, takeInterrupt_taken _ hirq hgie]
    rfl

theorem exec_hProcessAddress_taken {s : State} (hirq : s.irq = true) (hgie : s.gie = true) :
    exec .hProcessAddress s = .next (leaveHandler (processAddress s)) := by
  rw [exec_hProcessAddress, takeInterrupt_taken _ hirq hgie, Result.andThen_next]

/-- Settles O13: the stored address after the fold decides between the two answers. -/
theorem processAddressFoldsComparesAndAnswers : Obligations.ProcessAddressFoldsComparesAndAnswers := by
  intro s d hirq hgie hd
  obtain rfl : d = fold s.devAddr s.sr := hd
  rw [exec_hProcessAddress_taken hirq hgie]
  constructor
  · intro hmatch
    rw [processAddress_match hmatch]
    rfl
  · intro hmismatch
    rw [processAddress_mismatch hmismatch]
    rfl

/-- Settles O15: the invocation is taken, and runs `prepStart`. -/
theorem rxCheckReprimesAndGoesIdle : Obligations.RxCheckReprimesAndGoesIdle := by
  intro s hirq hgie
  rw [exec_hRxCheck, takeInterrupt_taken _ hirq hgie]
  rfl

/-! ### The bits that decide the match -/

/-- A byte is its seven address bits above its read/write flag (30_encoding R48). -/
theorem addressBits_append_rwFlag (b : Byte) : b.extractLsb' 1 7 ++ BitVec.ofBool (rwFlag b) = b := by
  revert b; decide

/-- From the canonical address the fold meets the received byte exactly when the byte's top seven bits are the
configured address: the read/write flag is folded in and decides nothing (41_address R71, R73). -/
theorem eq_fold_canonOf_iff (a : BitVec 7) (b : Byte) : b = fold (canonOf a) b ↔ b.extractLsb' 1 7 = a := by
  rw [fold_canonOf]
  constructor
  · intro h
    rw [h, BitVec.extractLsb'_append_eq_left]
  · rintro rfl
    exact (addressBits_append_rwFlag b).symm

/-- Settles O14: the comparison with the folded canonical address is one of the seven address bits. -/
theorem matchIsOnTheSevenAddressBits : Obligations.MatchIsOnTheSevenAddressBits := by
  intro s hirq hgie hcanon
  have hiff : s.sr = fold s.devAddr s.sr ↔ s.sr.extractLsb' 1 7 = s.ownAddr :=
    hcanon ▸ eq_fold_canonOf_iff s.ownAddr s.sr
  refine ⟨_, exec_hProcessAddress_taken hirq hgie, fun hown => ?own, fun hforeign => ?foreign⟩
  case own =>
    rw [processAddress_match (hiff.mpr hown)]
    exact ⟨rfl, rfl⟩
  case foreign =>
    rw [processAddress_mismatch (mt hiff.mp hforeign)]
    exact ⟨rfl, rfl⟩

/-! ### The address phase -/

/-- The engine is silent while it receives its address after a start, if it did not drive the line before. -/
theorem restarted_addressed_wire (r : Bool) {s : State} (hoe : s.oe = false) :
    (s.restarted.addressed r).wire =
      s.wire ++ [.start] ++ byteEntries false (s.ownAddr ++ BitVec.ofBool r) := by
  rw [← hoe]
  rfl

/-- Settles O51: the address phase runs block by block, and from the ready state the engine is silent on the line
while it receives the address. -/
theorem ownAddressIsAcknowledged : Obligations.OwnAddressIsAcknowledged := by
  intro s r hready hgie hsttie hie
  rw [(runs_addressPhase r hready.released hgie hsttie hie).ends, State.loaded,
    restarted_addressed_wire r hready.released]
  rfl

end Sys2Proof.Machine
end

section
/-! The byte-transmit sequencer (42_transmit R80 to R86): the whole next state of its three actions, whole
transactions and their reading on the wire. O17, O18, O19, O55 and O57. -/

namespace Sys2Proof.Machine

/-! ### The three actions -/

theorem txNext_out {s : State} (h : s.bufLen.n ≤ s.dataIdx.toNat) : txNext s = .fault .bufferIndexOutOfRange :=
  if_neg (Nat.not_lt.mpr h)

/-- Settles O17: the invocation is taken, and its `TX_NEXT` loads a byte in the buffer or faults. -/
theorem txDataLoadsTheByteAtTheCursor : Obligations.TxDataLoadsTheByteAtTheCursor := by
  intro s hirq hgie
  rw [exec_hTxData, takeInterrupt_taken _ hirq hgie]
  constructor
  · intro hin
    rw [txNext_in hin]
    rfl
  · intro hout
    rw [txNext_out hout]
    rfl

/-- Settles O18: the invocation is taken, and releases the line. -/
theorem ackNackReleasesTheLine : Obligations.AckNackReleasesTheLine := by
  intro s hirq hgie
  rw [exec_hAckNack, takeInterrupt_taken _ hirq hgie]
  rfl

/-- A NACK or an exhausted buffer ends the transaction (42_transmit R84, R85). -/
theorem txCheck_end {s : State} (h : nackBit s.sr = true ∨ s.bufLen.n ≤ s.dataIdx.toNat) :
    txCheck s = .next (endTransaction s) := by
  by_cases hnack : nackBit s.sr = true
  · exact txCheck_nack hnack
  · have hout : ¬ s.dataIdx.toNat < s.bufLen.n := Nat.not_lt.mpr (h.resolve_left hnack)
    rw [txCheck, if_neg hnack, if_neg hout]

/-- Settles O19: the invocation is taken, and the acknowledge bit and the cursor decide between its two ends. -/
theorem txCheckActsOnTheAcknowledgeBit : Obligations.TxCheckActsOnTheAcknowledgeBit := by
  intro s hirq hgie
  rw [exec_hTxCheck, takeInterrupt_taken _ hirq hgie]
  constructor
  · intro hend
    rw [txCheck_end hend]
    rfl
  · intro hack hin
    rw [txCheck_ack hack hin]
    rfl

/-! ### Reading the trace -/

/-- The trace entry of a clock with its line and `OE`. -/
def clockEntry (c : Bool × Bool) : WireEntry := .clock c.1 c.2

/-- The clocks in which the engine drives each byte of `ps` and the master answers it with the bit beside it. -/
def answeredClocks (ps : List (Byte × Bool)) : List (Bool × Bool) :=
  ps.flatMap fun p => (byteBits p.1).map (·, true) ++ [(p.2, false)]

theorem answeredClocks_append (ps qs : List (Byte × Bool)) :
    answeredClocks (ps ++ qs) = answeredClocks ps ++ answeredClocks qs := List.flatMap_append

/-- The entries of one byte and its answer, as the blocks of a script put them on the trace. -/
theorem map_clockEntry_answeredClocks_singleton (b : Byte) (m : Bool) :
    (answeredClocks [(b, m)]).map clockEntry = byteEntries true b ++ [.clock m false] := rfl

theorem byteOfBits_getLsbD (b : Byte) :
    byteOfBits (b.getLsbD 7) (b.getLsbD 6) (b.getLsbD 5) (b.getLsbD 4) (b.getLsbD 3) (b.getLsbD 2) (b.getLsbD 1)
      (b.getLsbD 0) = b := by
  revert b; decide

/-- Only the clocks after the last start marker count. -/
theorem clocksOfLastFrame_start (w rest : List WireEntry) (acc : List (Bool × Bool)) :
    clocksOfLastFrame (w ++ .start :: rest) acc = clocksOfLastFrame rest [] := by
  induction w generalizing acc with
  | nil => rfl
  | cons e w ih => cases e <;> exact ih _

theorem clocksOfLastFrame_clocks (cs acc : List (Bool × Bool)) :
    clocksOfLastFrame (cs.map clockEntry) acc = acc ++ cs := by
  induction cs generalizing acc with
  | nil => simp [clocksOfLastFrame]
  | cons c cs ih => simp [clocksOfLastFrame, clockEntry, ih]

/-- The address byte and its acknowledge bit are no data (44_environment R110). -/
theorem wireBytes_frame (w : List WireEntry) (oe : Bool) (b : Byte) (ack : Bool × Bool) (cs : List (Bool × Bool)) :
    wireBytes (w ++ [.start] ++ byteEntries oe b ++ [clockEntry ack] ++ cs.map clockEntry) = dataGroups cs := by
  have hframe : w ++ [.start] ++ byteEntries oe b ++ [clockEntry ack] ++ cs.map clockEntry =
      w ++ .start :: ((byteBits b).map (·, oe) ++ ack :: cs).map clockEntry := by
    simp [byteEntries, byteBits, clockEntry]
  rw [wireBytes, hframe, clocksOfLastFrame_start, clocksOfLastFrame_clocks]
  rfl

/-- The data bytes of a frame are the driven bytes in their order, whatever the master answers. -/
theorem dataGroups_answeredClocks (ps : List (Byte × Bool)) : dataGroups (answeredClocks ps) = ps.map Prod.fst := by
  induction ps with
  | nil => rfl
  | cons p ps ih =>
    calc dataGroups (answeredClocks (p :: ps))
        = byteOfBits (p.1.getLsbD 7) (p.1.getLsbD 6) (p.1.getLsbD 5) (p.1.getLsbD 4) (p.1.getLsbD 3)
            (p.1.getLsbD 2) (p.1.getLsbD 1) (p.1.getLsbD 0) :: dataGroups (answeredClocks ps) := rfl
      _ = p.1 :: ps.map Prod.fst := by rw [byteOfBits_getLsbD, ih]

/-! ### A transaction, byte by byte -/

section
variable {s : State}

/-- The first `k` bytes of the buffer, each acknowledged by the master. -/
def State.ackedBytes (s : State) (k : Nat) : List (Byte × Bool) := (List.range k).map fun i => (s.bufByte i, false)

theorem State.ackedBytes_succ (s : State) (k : Nat) :
    s.ackedBytes (k + 1) = s.ackedBytes k ++ [(s.bufByte k, false)] := by
  simp [State.ackedBytes, List.range_succ]

/-- `s`, with the address phase behind it, after the master has acknowledged `k` bytes: byte `k` is armed. -/
def State.sending (s : State) (k : Nat) : State :=
  { s with
    state := StateCode.ackNack, dataIdx := BitVec.ofNat 3 (k + 1), sr := s.bufByte k, cnt := 8#4, oe := true
    ifg := false, wire := s.wire ++ (answeredClocks (s.ackedBytes k)).map clockEntry }

/-- `s`, with the address phase behind it, after `k` acknowledged bytes, byte `k` with the answer `m` of the master, and
the end of the transaction. -/
def State.sent (s : State) (k : Nat) (m : Bool) : State :=
  { s with
    state := StateCode.idle, dataIdx := 0#3, devAddr := s.canon, sr := shiftIn (s.bufByte k) m, cnt := 0#4
    oe := false, ifg := false
    wire := s.wire ++ (answeredClocks (s.ackedBytes k ++ [(s.bufByte k, m)])).map clockEntry }

theorem State.Waiting.sending (h : s.Waiting) (k : Nat) : (s.sending k).Transmitting :=
  ⟨⟨h.noStart, rfl, h.enabled, h.unmasked⟩, rfl, rfl, rfl⟩

theorem sending_cursor {k : Nat} (hk : k < s.bufLen.n) : (s.sending k).dataIdx.toNat = k + 1 := by
  have hlen := s.bufLen.n_le_four
  exact Nat.mod_eq_of_lt (by omega)

/-- The trace after byte `k` and the answer to it. -/
theorem sending_wire_answered (s : State) (k : Nat) (m : Bool) :
    (s.sending k).wire ++ byteEntries true (s.bufByte k) ++ [.clock m false] =
      s.wire ++ (answeredClocks (s.ackedBytes k ++ [(s.bufByte k, m)])).map clockEntry := by
  rw [answeredClocks_append, List.map_append, map_clockEntry_answeredClocks_singleton]
  simp [State.sending]

/-- The master reads a byte that is not the last of the buffer and acknowledges it (42_transmit R84). -/
theorem runs_ackedByte {k : Nat} (h : s.Waiting) (hk : k + 1 < s.bufLen.n) :
    Runs ((scriptRbyte ++ [.irq]) ++ (scriptAck ++ [.irq])) (s.sending k) (s.sending (k + 1)) := by
  have hcursor : (s.sending k).dataIdx.toNat = k + 1 := sending_cursor (by omega)
  have hack := runs_ack (h.sending k).byteRead (hcursor.trans_lt hk)
  have hloaded : (s.sending k).byteRead.loaded [.clock false false] = s.sending (k + 1) := by
    have hbyte : (s.sending k).byteRead.bufByte (s.sending k).byteRead.dataIdx.toNat = s.bufByte (k + 1) :=
      congrArg s.bufByte hcursor
    have hnext : (s.sending k).byteRead.dataIdx + 1 = BitVec.ofNat 3 (k + 1 + 1) :=
      (BitVec.ofNat_add (k + 1) 1).symm
    have hwire : (s.sending k).byteRead.wire ++ [.clock false false] =
        s.wire ++ (answeredClocks (s.ackedBytes (k + 1))).map clockEntry := by
      rw [State.ackedBytes_succ, ← sending_wire_answered]
      rfl
    rw [State.loaded, hbyte, hnext, hwire]
    rfl
  exact (runs_drivenByte (h.sending k)).append (hloaded ▸ hack)

/-- The master reads a byte and the transaction ends: the master does not acknowledge, or the byte is the last of the
buffer (42_transmit R84, R85). -/
theorem runs_lastByte {k : Nat} {m : Bool} (h : s.Waiting) (hk : k < s.bufLen.n)
    (hend : m = true ∨ s.bufLen.n ≤ k + 1) :
    Runs ((scriptRbyte ++ [.irq]) ++ ([.clk m] ++ [.irq])) (s.sending k) (s.sent k m) := by
  have hlistening := (h.sending k).byteRead
  have hover : nackBit (shiftIn (s.bufByte k) m) = true ∨ s.bufLen.n ≤ (s.sending k).dataIdx.toNat := by
    rwa [nackBit_shiftIn, sending_cursor hk]
  have hcheck := txCheck_end
    (s := (s.sending k).byteRead.received (shiftIn (s.bufByte k) m) [.clock m false]) hover
  have hanswer := runs_served hlistening.toWaiting (runs_acknowledgeBit m hlistening)
    (by rw [hlistening.state]; rfl) hcheck
  have hsent : leaveHandler (endTransaction ((s.sending k).byteRead.received (shiftIn (s.bufByte k) m)
      [.clock m false])) = s.sent k m := by
    rw [State.sent, ← sending_wire_answered]
    rfl
  exact (runs_drivenByte (h.sending k)).append (hsent ▸ hanswer)

theorem scriptAckedBytes_succ_eq_append (k : Nat) :
    scriptAckedBytes (k + 1) =
      scriptAckedBytes k ++ ((scriptRbyte ++ [Statement.irq]) ++ (scriptAck ++ [Statement.irq])) := by
  induction k with
  | zero => rfl
  | succ k ih =>
    simp only [scriptAckedBytes_succ_eq_blocks, List.append_assoc] at ih ⊢
    rw [ih]

/-- The bytes before the last one, each acknowledged. -/
theorem runs_ackedBytes_sending {k : Nat} (h : s.Waiting) (hk : k < s.bufLen.n) :
    Runs (scriptAckedBytes k) (s.sending 0) (s.sending k) := by
  induction k with
  | zero => exact .nil _
  | succ k ih =>
    rw [scriptAckedBytes_succ_eq_append]
    exact (ih (by omega)).append (runs_ackedByte h hk)

/-- The script that reads `k` acknowledged bytes and a last one, which the master answers with `m`. -/
def scriptTransaction (a : BitVec 7) (k : Nat) (m : Bool) : List Statement :=
  scriptAddressPhase a true ++ (scriptAckedBytes k ++ ((scriptRbyte ++ [.irq]) ++ ([.clk m] ++ [.irq])))

/-- `s` after the address phase of a read: its own address is acknowledged and the first byte is armed. -/
def State.opened (s : State) : State := (s.restarted.addressed true).loaded [.clock false true]

theorem opened_sending_zero (s : State) : s.opened.sending 0 = s.opened :=
  congrArg (fun entries => { s.opened with wire := entries }) (List.append_nil s.opened.wire)

theorem opened_waiting (hgie : s.gie = true) (hie : s.ie = true) : s.opened.Waiting := ⟨rfl, rfl, hie, hgie⟩

/-- A whole transaction from the ready state (42_transmit R85). -/
theorem runs_transaction {k : Nat} {m : Bool} (hready : s.Ready) (hgie : s.gie = true) (hsttie : s.sttie = true)
    (hie : s.ie = true) (hk : k < s.bufLen.n) (hend : m = true ∨ s.bufLen.n ≤ k + 1) :
    Runs (scriptTransaction s.ownAddr k m) s (s.opened.sent k m) := by
  have hwaiting : s.opened.Waiting := opened_waiting hgie hie
  have haddress : Runs (scriptAddressPhase s.ownAddr true) s (s.opened.sending 0) := by
    rw [opened_sending_zero]
    exact runs_addressPhase true hready.released hgie hsttie hie
  exact haddress.append ((runs_ackedBytes_sending hwaiting hk).append (runs_lastByte hwaiting hk hend))

/-- The wire bytes of a transaction are the bytes of the buffer up to the last one read, index 0 first
(20_memory R40). -/
theorem wireBytes_sent (hready : s.Ready) (k : Nat) (m : Bool) :
    wireBytes (s.opened.sent k m).wire = (List.range (k + 1)).map s.bufByte := by
  have hopened : s.opened.wire = s.wire ++ [.start] ++ byteEntries false (s.ownAddr ++ BitVec.ofBool true) ++
      [clockEntry (false, true)] := by
    rw [State.opened, State.loaded, restarted_addressed_wire true hready.released]
    rfl
  have hbytes : s.opened.ackedBytes k ++ [(s.opened.bufByte k, m)] = s.ackedBytes k ++ [(s.bufByte k, m)] := rfl
  rw [State.sent, hopened, wireBytes_frame, dataGroups_answeredClocks, hbytes]
  simp [State.ackedBytes, List.range_succ]

/-- After the last byte the engine is ready for the next transaction, whatever the answer (10_state R29). -/
theorem sent_ready (s : State) (k : Nat) (m : Bool) : (s.sent k m).Ready := ⟨rfl, rfl, rfl, rfl⟩

theorem sent_quiescent (k : Nat) (m : Bool) (h : s.Waiting) : (s.sent k m).Quiescent := ⟨rfl, h.noStart, rfl, rfl⟩

theorem scriptRead_eq_transaction (a : BitVec 7) (k : Nat) : scriptRead a (k + 1) = scriptTransaction a k true :=
  scriptRead_eq_blocks a (k + 1)

theorem scriptExhaust_eq_transaction (a : BitVec 7) (k : Nat) :
    scriptAddressPhase a true ++ scriptAckedBytes (k + 1) = scriptTransaction a k false := by
  rw [scriptAckedBytes_succ_eq_append]
  rfl

/-- Clocks in a quiescent state change nothing but the trace (42_transmit R86). -/
theorem runs_ignoredClocks {ms : List Bool} (hquiet : s.Quiescent) (hoe : s.oe = false) :
    Runs (ms.map .clk) s { s with wire := s.wire ++ ms.map (.clock · false) } := by
  induction ms generalizing s with
  | nil => simpa using Runs.nil s
  | cons m rest ih =>
    have hfree : s.clockHeld = false := by simp [State.clockHeld, hquiet.noStart, hquiet.noCompletion]
    have henabled : (Statement.clk m).enabled s = true := by simp [Statement.enabled, hfree]
    have hline : s.line m = m := by simp [State.line, State.drive, hoe]
    have hrun : (Statement.clk m).run s = .next (traceWire (.clock m false) s) := by
      rw [Statement.run, exec_envClock_unarmed m hfree hquiet.unarmed, hline, hoe]
    have hrest := ih (s := traceWire (.clock m false) s)
      ⟨hquiet.idle, hquiet.noStart, hquiet.noCompletion, hquiet.unarmed⟩ hoe
    have hwire : (traceWire (.clock m false) s).wire ++ rest.map (.clock · false) =
        s.wire ++ (m :: rest).map (.clock · false) := by simp
    rw [hwire] at hrest
    exact .cons henabled hrun hrest

end

/-! ### Whole transactions -/

/-- Settles O55: the read is a transaction whose last answer is a NACK. -/
theorem readDeliversTheFirstBytesInOrder : Obligations.ReadDeliversTheFirstBytesInOrder := by
  intro s n hready hgie hsttie hie hpos hn
  obtain ⟨k, rfl⟩ : ∃ k, n = k + 1 := ⟨n - 1, by omega⟩
  have hruns : Runs (scriptTransaction s.ownAddr k true) s (s.opened.sent k true) :=
    runs_transaction hready hgie hsttie hie hn (.inl rfl)
  rw [← scriptRead_eq_transaction] at hruns
  have hquiet : (s.opened.sent k true).Quiescent := sent_quiescent k true (opened_waiting hgie hie)
  exact ⟨_, hruns.ends, wireBytes_sent hready k true, sent_ready _ k true, hquiet, rfl⟩

/-- Settles O57: the transaction whose last answer is an ACK ends because the buffer is exhausted. -/
theorem exhaustedBufferEndsTheTransaction : Obligations.ExhaustedBufferEndsTheTransaction := by
  intro s hready hgie hsttie hie
  obtain ⟨k, hk⟩ : ∃ k, s.bufLen.n = k + 1 := Nat.exists_eq_add_one.mpr s.bufLen.n_pos
  have hruns : Runs (scriptTransaction s.ownAddr k false) s (s.opened.sent k false) :=
    runs_transaction hready hgie hsttie hie (by omega) (.inr hk.le)
  rw [← scriptExhaust_eq_transaction, ← hk] at hruns
  have hquiet : (s.opened.sent k false).Quiescent := sent_quiescent k false (opened_waiting hgie hie)
  have hwire : wireBytes (s.opened.sent k false).wire = (List.range s.bufLen.n).map s.bufByte :=
    hk ▸ wireBytes_sent hready k false
  have hignored := (runs_ignoredClocks (ms := byteBits 0xFF#8) hquiet rfl).ends
  exact ⟨_, hruns.ends, hwire, sent_ready _ k false, hquiet, hignored⟩

end Sys2Proof.Machine
end

section
/-! The value codec as bytes and as numbers (43_codec_host R90 to R94, 30_encoding R52, R54). O29 and O30. -/

namespace Sys2Proof.Machine

/-- A codec byte is a slice of the value (30_encoding R54). -/
theorem codecByte_eq_extractLsb' {w : Nat} (v : BitVec w) (i : Nat) :
    codecByte v i = v.extractLsb' (w - 8 - 8 * i) 8 :=
  BitVec.setWidth_ushiftRight_eq_extractLsb

theorem packBytes16_eq (v : BitVec 16) : packBytes16 v = [v.extractLsb' 8 8, v.extractLsb' 0 8] := by
  simp only [packBytes16, codecByte_eq_extractLsb']

theorem packBytes32_eq (v : BitVec 32) :
    packBytes32 v = [v.extractLsb' 24 8, v.extractLsb' 16 8, v.extractLsb' 8 8, v.extractLsb' 0 8] := by
  simp only [packBytes32, codecByte_eq_extractLsb']

theorem packBytes16_width {s : State} (h : s.bufLen = .two) (v : BitVec 16) :
    (packBytes16 v).length = s.bufLen.n := by rw [h]; rfl

theorem packBytes32_width {s : State} (h : s.bufLen = .four) (v : BitVec 32) :
    (packBytes32 v).length = s.bufLen.n := by rw [h]; rfl

theorem unpackValue16_slices (v : BitVec 16) : unpackValue16 (v.extractLsb' 8 8) (v.extractLsb' 0 8) = v := by
  rw [unpackValue16, BitVec.extractLsb'_append_extractLsb'_eq_extractLsb' (by decide), BitVec.extractLsb'_eq_self]

theorem unpackValue32_slices (v : BitVec 32) :
    unpackValue32 (v.extractLsb' 24 8) (v.extractLsb' 16 8) (v.extractLsb' 8 8) (v.extractLsb' 0 8) = v := by
  rw [unpackValue32, BitVec.extractLsb'_append_extractLsb'_eq_extractLsb' (by decide),
    BitVec.extractLsb'_append_extractLsb'_eq_extractLsb' (by decide),
    BitVec.extractLsb'_append_extractLsb'_eq_extractLsb' (by decide), BitVec.extractLsb'_eq_self]

/-- A slice that lies above the byte appended last does not see it. -/
theorem extractLsb'_append_byte {w : Nat} (x : BitVec w) (b : Byte) (start : Nat) :
    (x ++ b).extractLsb' (start + 8) 8 = x.extractLsb' start 8 :=
  (BitVec.extractLsb'_append_eq_of_le (by omega)).trans (by rw [Nat.add_sub_cancel])

theorem packBytes16_unpackValue16 (b0 b1 : Byte) : packBytes16 (unpackValue16 b0 b1) = [b0, b1] := by
  rw [packBytes16_eq, unpackValue16, BitVec.extractLsb'_append_eq_left, BitVec.extractLsb'_append_eq_right]

theorem packBytes32_unpackValue32 (b0 b1 b2 b3 : Byte) :
    packBytes32 (unpackValue32 b0 b1 b2 b3) = [b0, b1, b2, b3] := by
  have h0 : (b0 ++ b1 ++ b2 ++ b3).extractLsb' 24 8 = b0 := by
    rw [extractLsb'_append_byte _ b3 16, extractLsb'_append_byte _ b2 8, BitVec.extractLsb'_append_eq_left]
  have h1 : (b0 ++ b1 ++ b2 ++ b3).extractLsb' 16 8 = b1 := by
    rw [extractLsb'_append_byte _ b3 8, extractLsb'_append_byte _ b2 0, BitVec.extractLsb'_append_eq_right]
  have h2 : (b0 ++ b1 ++ b2 ++ b3).extractLsb' 8 8 = b2 := by
    rw [extractLsb'_append_byte _ b3 0, BitVec.extractLsb'_append_eq_right]
  have h3 : (b0 ++ b1 ++ b2 ++ b3).extractLsb' 0 8 = b3 := BitVec.extractLsb'_append_eq_right
  rw [packBytes32_eq, unpackValue32, h0, h1, h2, h3]

/-- Settles O30: a value is the concatenation of its slices, and each byte is a slice of the concatenation. -/
theorem codecRoundTrips : Obligations.CodecRoundTrips :=
  ⟨fun v => ⟨_, _, packBytes16_eq v, unpackValue16_slices v⟩, packBytes16_unpackValue16,
    fun v => ⟨_, _, _, _, packBytes32_eq v, unpackValue32_slices v⟩, packBytes32_unpackValue32⟩

/-- Settles O29: the value is the concatenation of the bytes, each appended byte a factor of 256. -/
theorem unpackReturnsTheBigEndianValue : Obligations.UnpackReturnsTheBigEndianValue := by
  refine ⟨fun s b0 b1 => ⟨unpackValue16 b0 b1, rfl, ?value16⟩,
    fun s b0 b1 b2 b3 => ⟨unpackValue32 b0 b1 b2 b3, rfl, ?value32⟩⟩
  case value16 => exact append_toNat b0 b1
  case value32 =>
    rw [unpackValue32, append_toNat, append_toNat, append_toNat]
    rfl

end Sys2Proof.Machine
end

section
/-! The producer's calls by their whole next state: the set-up, the critical section, the byte writes of a pack and the
publish around them (43_codec_host R90 to R100). O23 to O28, O31, O32 and O34. -/

namespace Sys2Proof.Machine

/-! ### The set-up and the critical section -/

/-- A set-up that answers a next state was the first one, with an address of seven bits. -/
theorem execHostInit_cases {a : Nat} {s t : State} (h : execHostInit a s = .next t) :
    s.initDone = false ∧ a ≤ 127 ∧ t = configuredFor (BitVec.ofNat 7 a) s := by
  unfold execHostInit at h
  split at h
  · cases h
  next hfirst =>
    split at h
    · cases h
    next ha =>
      cases h
      exact ⟨by simpa using hfirst, by omega, rfl⟩

/-- Settles O23: the ghost and the argument decide between the set-up and its two refusals. -/
theorem initializeConfiguresOnce : Obligations.InitializeConfiguresOnce := by
  intro s a
  refine ⟨fun hfirst ha => ?sets, fun hfirst ha => ?tooLarge, fun hdone => ?again⟩
  case sets =>
    have hsmall : ¬ 127 < a := by omega
    rw [exec, execHostInit, if_neg (by simp [hfirst]), if_neg hsmall]
    rfl
  case tooLarge => rw [exec, execHostInit, if_neg (by simp [hfirst]), if_pos ha]
  case again => rw [exec, execHostInit, if_pos hdone]

theorem maskInterrupts_outside {s : State} (h : s.inCritical = false) :
    maskInterrupts s = .next (enterCritical s) := if_neg (by simp [h])

theorem maskInterrupts_nested {s : State} (h : s.inCritical = true) :
    maskInterrupts s = .refused .nestedCriticalSection := if_pos h

/-- Settles O24: the ghost decides whether `irq_mask` is nested, and nothing does for `irq_restore`. -/
theorem criticalSectionSavesAndRestoresGie : Obligations.CriticalSectionSavesAndRestoresGie :=
  fun _ => ⟨maskInterrupts_outside, maskInterrupts_nested, rfl⟩

/-! ### Byte writes in a row -/

/-- `m` after the byte writes `ws`, one after the other. -/
def Memory.writeList (m : Memory) (ws : List (Nat × Byte)) : Memory :=
  ws.foldl (fun m w => Memory.write m w.1 w.2) m

theorem Memory.writeList_append (m : Memory) (ws ws' : List (Nat × Byte)) :
    Memory.writeList m (ws ++ ws') = Memory.writeList (Memory.writeList m ws) ws' := List.foldl_append

/-- `s` after the byte writes `done`, with the byte writes `left` still to come. -/
def State.packing (s : State) (done left : List (Nat × Byte)) : State :=
  { s with txbuf := Memory.writeList s.txbuf done, pendingWrites := left }

theorem packing_packing (s : State) (ws ws' left left' : List (Nat × Byte)) :
    (s.packing ws left).packing ws' left' = s.packing (ws ++ ws') left' := by
  simp [State.packing, Memory.writeList_append]

/-- With no pack in progress, a row of writes that leaves none changes the buffer only. -/
theorem packing_nil {s : State} (h : s.pendingWrites = []) (ws : List (Nat × Byte)) :
    s.packing ws [] = { s with txbuf := Memory.writeList s.txbuf ws } := by
  rw [State.packing, ← h]

/-- What `writeAll` does is the row of its writes, when all lie in the buffer. -/
theorem writeAll_eq_next {ws : List (Nat × Byte)} {s : State} (h : ∀ w ∈ ws, w.1 < s.bufLen.n) :
    writeAll ws s = .next { s with txbuf := Memory.writeList s.txbuf ws } := by
  induction ws generalizing s with
  | nil => rfl
  | cons w rest ih =>
    obtain ⟨hw, hrest⟩ := List.forall_mem_cons.mp h
    rw [writeAll, memWrite_in _ hw, Result.andThen_next]
    exact ih (s := { s with txbuf := Memory.write s.txbuf w.1 w.2 }) hrest

/-! ### The bytes of a pack in the buffer -/

theorem packWrites_append_singleton (bytes : List Byte) (b : Byte) :
    packWrites (bytes ++ [b]) = packWrites bytes ++ [(bytes.length, b)] := by
  rw [packWrites, List.length_append, List.length_singleton, List.range_succ, List.zip_append List.length_range]
  rfl

/-- Byte `i` of the pack is what index `i` holds afterwards; beyond the pack nothing changes. -/
theorem Memory.read_writeList_packWrites (m : Memory) (bytes : List Byte) (i : Nat) :
    Memory.read (Memory.writeList m (packWrites bytes)) i = bytes[i]?.or (Memory.read m i) := by
  induction bytes using List.reverseRecOn with
  | nil => rfl
  | append_singleton bytes b ih =>
    rw [packWrites_append_singleton, Memory.writeList_append]
    change Memory.read (Memory.write _ bytes.length b) i = _
    rcases eq_or_ne i bytes.length with rfl | hi
    · rw [Memory.read_write_same, List.getElem?_concat_length, Option.some_or]
    · have hbyte : (bytes ++ [b])[i]? = bytes[i]? := by grind
      rw [Memory.read_write_other _ _ _ _ hi, ih, hbyte]

theorem packing_bufByte (s : State) (bytes : List Byte) (left : List (Nat × Byte)) (i : Nat) :
    (s.packing (packWrites bytes) left).bufByte i = bytes[i]?.getD (s.bufByte i) := by
  rw [State.bufByte, State.packing, Memory.read_writeList_packWrites, Option.getD_or]
  rfl

theorem packing_read_beyond (s : State) {bytes : List Byte} (left : List (Nat × Byte)) {a : Nat}
    (h : bytes.length ≤ a) :
    Memory.read (s.packing (packWrites bytes) left).txbuf a = Memory.read s.txbuf a := by
  rw [State.packing, Memory.read_writeList_packWrites, List.getElem?_eq_none h, Option.none_or]

/-! ### The pack -/

/-- `s` after the first `k` byte writes of a bare pack of `bytes`, the others still to come (43_codec_host R100). -/
def State.partlyPacked (s : State) (bytes : List Byte) (k : Nat) : State :=
  s.packing ((packWrites bytes).take k) ((packWrites bytes).drop k)

section
variable {bytes : List Byte} {s : State}

theorem packBytes_of_width (h : bytes.length = s.bufLen.n) : packBytes bytes s = startWrites (packWrites bytes) s :=
  if_pos h

theorem packBytes_wrongWidth (h : bytes.length ≠ s.bufLen.n) : packBytes bytes s = .refused .widthMismatch :=
  if_neg h

/-- The byte writes of a pack of the right width lie in the buffer. -/
theorem packWrites_in (h : bytes.length = s.bufLen.n) : ∀ w ∈ packWrites bytes, w.1 < s.bufLen.n :=
  fun _ hw => (packWrites_lt hw).trans_eq h

/-- Inside a critical section a pack is all of its byte writes (20_memory R36; log 10). -/
theorem packBytes_masked (hlen : bytes.length = s.bufLen.n) (hcritical : s.inCritical = true)
    (hpending : s.pendingWrites = []) : packBytes bytes s = .next (s.packing (packWrites bytes) []) := by
  rw [packBytes_of_width hlen, startWrites, if_pos hcritical, hpending, List.nil_append]
  exact writeAll_eq_next (s := { s with pendingWrites := [] }) (packWrites_in hlen)

/-- Outside one a pack is its first byte write, the others left to come (R100). -/
theorem packBytes_bare (hlen : bytes.length = s.bufLen.n) (hcritical : s.inCritical = false)
    (hpending : s.pendingWrites = []) :
    packBytes bytes s = .next (s.partlyPacked bytes 1) := by
  rw [packBytes_of_width hlen, startWrites, if_neg (by simp [hcritical]), hpending, List.nil_append,
    State.partlyPacked]
  cases hws : packWrites bytes with
  | nil => rfl
  | cons w rest =>
    have hw : w.1 < s.bufLen.n := packWrites_in hlen w (hws ▸ List.mem_cons_self)
    exact writeNext_of_pending (s := { s with pendingWrites := w :: rest }) rfl hw

end

/-- The bytes of a 16-bit pack in the buffer, the most significant first, and the rest of the memory. -/
theorem packing_pack16 (s : State) (v : BitVec 16) (left : List (Nat × Byte)) :
    (s.packing (packWrites (packBytes16 v)) left).bufByte 0 = v.extractLsb' 8 8 ∧
      (s.packing (packWrites (packBytes16 v)) left).bufByte 1 = v.extractLsb' 0 8 ∧
      ∀ a, a ≠ 0 → a ≠ 1 →
        Memory.read (s.packing (packWrites (packBytes16 v)) left).txbuf a = Memory.read s.txbuf a := by
  simp only [packBytes16_eq, packing_bufByte]
  exact ⟨rfl, rfl, fun a h0 h1 => packing_read_beyond s left (show 2 ≤ a by omega)⟩

/-- The bytes of a 32-bit pack likewise. -/
theorem packing_pack32 (s : State) (v : BitVec 32) (left : List (Nat × Byte)) :
    (s.packing (packWrites (packBytes32 v)) left).bufByte 0 = v.extractLsb' 24 8 ∧
      (s.packing (packWrites (packBytes32 v)) left).bufByte 1 = v.extractLsb' 16 8 ∧
      (s.packing (packWrites (packBytes32 v)) left).bufByte 2 = v.extractLsb' 8 8 ∧
      (s.packing (packWrites (packBytes32 v)) left).bufByte 3 = v.extractLsb' 0 8 ∧
      ∀ a, 4 ≤ a →
        Memory.read (s.packing (packWrites (packBytes32 v)) left).txbuf a = Memory.read s.txbuf a := by
  simp only [packBytes32_eq, packing_bufByte]
  exact ⟨rfl, rfl, rfl, rfl, fun _ ha => packing_read_beyond s left ha⟩

/-- Settles O27: the pack is all of its byte writes, from index 0 on. -/
theorem maskedPackWritesTheWholeBuffer : Obligations.MaskedPackWritesTheWholeBuffer := by
  intro s hcritical hpending
  refine ⟨fun v hlen => ?two, fun v hlen => ?four⟩
  case two =>
    obtain ⟨h0, h1, hframe⟩ := packing_pack16 s v []
    exact ⟨_, packBytes_masked (packBytes16_width hlen v) hcritical hpending, h0, h1, hframe,
      packing_nil hpending _⟩
  case four =>
    obtain ⟨h0, h1, h2, h3, hframe⟩ := packing_pack32 s v []
    exact ⟨_, packBytes_masked (packBytes32_width hlen v) hcritical hpending, h0, h1, h2, h3, hframe,
      packing_nil hpending _⟩

/-- Settles O28: the call does the first byte write, and each later turn of the producer the next one. -/
theorem unmaskedPackWritesOneBytePerStep : Obligations.UnmaskedPackWritesOneBytePerStep := by
  intro s hcritical hpending
  refine ⟨fun v hlen => ?two, fun v hlen => ?four, fun u ts i b rest hturns hleft hi => ?more⟩
  case two =>
    have hpack := packBytes_bare (packBytes16_width hlen v) hcritical hpending
    rwa [packBytes16_eq] at hpack
  case four =>
    have hpack := packBytes_bare (packBytes32_width hlen v) hcritical hpending
    rwa [packBytes32_eq] at hpack
  case more =>
    calc step u
      _ = writeNext { u with turns := ts } :=
        step_of_turn_error hturns (fetchFor_producer_of_pending (s := { u with turns := ts }) hleft)
      _ = .next { u with turns := ts, txbuf := Memory.write u.txbuf i b, pendingWrites := rest } :=
        writeNext_of_pending (s := { u with turns := ts }) hleft hi

/-! ### The publish -/

section
variable {bytes : List Byte} {s : State}

theorem publish_wrongWidth (h : bytes.length ≠ s.bufLen.n) : publish bytes s = .refused .widthMismatch := if_neg h

theorem publish_nested (hlen : bytes.length = s.bufLen.n) (hcritical : s.inCritical = true) :
    publish bytes s = .refused .nestedCriticalSection := by
  rw [publish, if_pos hlen, maskInterrupts_nested hcritical, Result.andThen_refused]

/-- Leaving the critical section that a publish entered puts `GIE` back to its value before. -/
theorem leaveCritical_packing_enterCritical (hcritical : s.inCritical = false) (ws : List (Nat × Byte)) :
    leaveCritical ((enterCritical s).packing ws []) = { s.packing ws [] with gieSaved := s.gie } := by
  simp [leaveCritical, enterCritical, State.packing, hcritical]

/-- A publish is its pack between the masking and the unmasking of the interrupts (R96, R97). -/
theorem publish_outside (hlen : bytes.length = s.bufLen.n) (hcritical : s.inCritical = false)
    (hpending : s.pendingWrites = []) :
    publish bytes s = .next { s.packing (packWrites bytes) [] with gieSaved := s.gie } := by
  rw [publish, if_pos hlen, maskInterrupts_outside hcritical, Result.andThen_next,
    packBytes_masked (s := enterCritical s) hlen rfl hpending, Result.andThen_next,
    leaveCritical_packing_enterCritical hcritical]

end

/-- Settles O25: the publish writes its two bytes and leaves the critical section it entered. -/
theorem publish16IsOneAtomicStep : Obligations.Publish16IsOneAtomicStep := by
  intro s v hlen hcritical hpending
  obtain ⟨h0, h1, hframe⟩ := packing_pack16 s v []
  exact ⟨_, publish_outside (packBytes16_width hlen v) hcritical hpending, h0, h1, hframe,
    by rw [packing_nil hpending]⟩

/-- Settles O26: likewise with four bytes. -/
theorem publish32IsOneAtomicStep : Obligations.Publish32IsOneAtomicStep := by
  intro s v hlen hcritical hpending
  obtain ⟨h0, h1, h2, h3, hframe⟩ := packing_pack32 s v []
  exact ⟨_, publish_outside (packBytes32_width hlen v) hcritical hpending, h0, h1, h2, h3, hframe,
    by rw [packing_nil hpending]⟩

/-- Settles O31: both operations compare the width before anything else. -/
theorem wrongWidthIsRefused : Obligations.WrongWidthIsRefused := by
  intro s
  refine ⟨fun hlen v => ?two, fun hlen v => ?four⟩
  case two =>
    have hwidth : (packBytes16 v).length ≠ s.bufLen.n := by simp [packBytes16, hlen]
    exact ⟨publish_wrongWidth hwidth, packBytes_wrongWidth hwidth⟩
  case four =>
    have hwidth : (packBytes32 v).length ≠ s.bufLen.n := by simp [packBytes32, hlen]
    exact ⟨publish_wrongWidth hwidth, packBytes_wrongWidth hwidth⟩

/-- Settles O32: a publish of the right width masks the interrupts first. -/
theorem publishInsideACriticalSectionIsRefused : Obligations.PublishInsideACriticalSectionIsRefused :=
  fun _ hcritical =>
    ⟨fun hlen v => publish_nested (packBytes16_width hlen v) hcritical,
      fun hlen v => publish_nested (packBytes32_width hlen v) hcritical⟩

/-! ### What the calls store -/

theorem packBytes_read_other {bytes : List Byte} {s t : State} {a : Nat} (h : packBytes bytes s = .next t)
    (ha : a ∉ (s.pendingWrites ++ packWrites bytes).map Prod.fst) :
    Memory.read t.txbuf a = Memory.read s.txbuf a := by
  obtain ⟨-, hs⟩ := packBytes_cases h
  obtain ⟨m, p, rfl, -, -, -, -, hread⟩ := startWrites_cases hs
  exact hread a ha

theorem publish_read_other {bytes : List Byte} {s t : State} {a : Nat} (h : publish bytes s = .next t)
    (ha : a ∉ (s.pendingWrites ++ packWrites bytes).map Prod.fst) :
    Memory.read t.txbuf a = Memory.read s.txbuf a := by
  obtain ⟨-, -, m, rfl, -, -, hread⟩ := publish_cases h
  exact hread a ha

/-- Settles O34: a pack and a publish store where their writes say, and no other call writes the buffer. -/
theorem producerStoresOnlyWhereItWrites : Obligations.ProducerStoresOnlyWhereItWrites := by
  refine ⟨fun s t v a h ha => ?two, fun s t v a h ha => ?four,
    fun i s t a hi hpack16 hpack32 hset16 hset32 h => congrArg (Memory.read · a) ?others⟩
  case two => exact h.elim (packBytes_read_other · ha) (publish_read_other · ha)
  case four => exact h.elim (packBytes_read_other · ha) (publish_read_other · ha)
  case others =>
    cases i with
    | hostInit a =>
      obtain ⟨-, -, rfl⟩ := execHostInit_cases h
      rfl
    | setTransmitValue16 v => exact absurd rfl (hset16 v)
    | setTransmitValue32 v => exact absurd rfl (hset32 v)
    | pack16 v => exact absurd rfl (hpack16 v)
    | pack32 v => exact absurd rfl (hpack32 v)
    | unpack16 b0 b1 | unpack32 b0 b1 b2 b3 | irqRestore =>
      cases h
      rfl
    | irqMask =>
      obtain ⟨-, rfl⟩ := maskInterrupts_cases h
      rfl
    | _ => nomatch hi

end Sys2Proof.Machine
end

section
/-! A transaction between two byte writes of a bare pack (43_codec_host R100, 70_reset R144). O58. -/

namespace Sys2Proof.Machine

@[simp] theorem packWrites_length (bytes : List Byte) : (packWrites bytes).length = bytes.length := by
  simp [packWrites]

theorem packWrites_take (bytes : List Byte) (k : Nat) : (packWrites bytes).take k = packWrites (bytes.take k) := by
  rw [packWrites, packWrites, List.zip, List.take_zipWith, List.take_range, List.length_take]

/-- `k` statements `more` are the next `k` byte writes of the pack in progress. -/
theorem runs_more {k : Nat} {s : State} (hin : ∀ w ∈ s.pendingWrites, w.1 < s.bufLen.n)
    (hk : k ≤ s.pendingWrites.length) :
    Runs (List.replicate k .more) s (s.packing (s.pendingWrites.take k) (s.pendingWrites.drop k)) := by
  induction k generalizing s with
  | zero => exact .nil s
  | succ k ih =>
    obtain ⟨w, rest, hpending⟩ := List.exists_cons_of_length_pos (Nat.zero_lt_of_lt hk)
    rw [hpending] at hin hk ⊢
    obtain ⟨hw, hrest⟩ := List.forall_mem_cons.mp hin
    have henabled : Statement.more.enabled s = true := by simp [Statement.enabled, hpending]
    exact .cons henabled (writeNext_of_pending hpending hw)
      (ih (s := { s with txbuf := Memory.write s.txbuf w.1 w.2, pendingWrites := rest }) hrest
        (Nat.le_of_succ_le_succ hk))

/-- After the first `k` byte writes of a pack the buffer reads as the first `k` bytes of the pack and the old bytes
behind them. -/
theorem map_bufByte_partlyPacked (s : State) (bytes : List Byte) (k : Nat) :
    (List.range bytes.length).map (s.partlyPacked bytes k).bufByte =
      bytes.take k ++ ((List.range bytes.length).drop k).map s.bufByte := by
  rw [State.partlyPacked, packWrites_take]
  refine List.ext_getElem (by simp; omega) fun i hi _ => ?_
  rw [List.length_map, List.length_range] at hi
  rw [List.getElem_map, List.getElem_range, packing_bufByte]
  rcases Nat.lt_or_ge i (bytes.take k).length with hnew | hold
  · rw [List.getElem_append_left hnew, List.getElem?_eq_getElem hnew, Option.getD_some]
  · have hindex : k + (i - (bytes.take k).length) = i := by
      rw [List.length_take] at hold ⊢
      omega
    simp only [List.getElem_append_right hold, List.getElem?_eq_none hold, Option.getD_none, List.getElem_map,
      List.getElem_drop, List.getElem_range, hindex]

section
variable {bytes : List Byte} {s : State} {st : Statement} {k : Nat}

/-- A bare pack and `k` statements `more` do its first `k + 1` byte writes. -/
theorem runs_barePack (hlen : bytes.length = s.bufLen.n) (hcritical : s.inCritical = false)
    (hpending : s.pendingWrites = []) (henabled : st.enabled s = true) (hrun : st.run s = packBytes bytes s)
    (hk : k < bytes.length) :
    Runs (st :: List.replicate k .more) s (s.partlyPacked bytes (k + 1)) := by
  have hin : ∀ w ∈ (packWrites bytes).drop 1, w.1 < s.bufLen.n := fun w hw =>
    packWrites_in hlen w (List.mem_of_mem_drop hw)
  have hleft : k ≤ ((packWrites bytes).drop 1).length := by simp; omega
  have hmore := runs_more (s := s.partlyPacked bytes 1) hin hleft
  rw [State.partlyPacked, packing_packing] at hmore
  rw [State.partlyPacked, Nat.add_comm k 1, List.take_add, ← List.drop_drop]
  exact .cons henabled (hrun.trans (packBytes_bare hlen hcritical hpending)) hmore

/-- A bare pack with a whole transaction after byte write `k`: the master reads the new bytes up to that one and the
old ones behind, and afterwards the buffer holds the whole pack. -/
theorem runs_tornRead {l : Nat} (hready : s.Ready) (hgie : s.gie = true) (hsttie : s.sttie = true)
    (hie : s.ie = true) (hlen : bytes.length = s.bufLen.n) (hcritical : s.inCritical = false)
    (hpending : s.pendingWrites = []) (henabled : st.enabled s = true) (hrun : st.run s = packBytes bytes s)
    (hkl : k + l + 1 = s.bufLen.n) :
    ∃ t, Runs (st :: List.replicate k .more ++ scriptRead s.ownAddr s.bufLen.n ++ List.replicate l .more) s t ∧
      wireBytes t.wire = bytes.take (k + 1) ++ ((List.range s.bufLen.n).drop (k + 1)).map s.bufByte ∧
      ∀ i, t.bufByte i = (s.packing (packWrites bytes) []).bufByte i := by
  have hpack := runs_barePack (k := k) hlen hcritical hpending henabled hrun (by omega)
  have hpacked : (s.partlyPacked bytes (k + 1)).Ready := ⟨hready.idle, hready.cursor, hready.device, hready.released⟩
  have hread : Runs (scriptRead s.ownAddr s.bufLen.n) (s.partlyPacked bytes (k + 1))
      ((s.partlyPacked bytes (k + 1)).opened.sent (k + l) true) := by
    rw [← hkl, scriptRead_eq_transaction]
    exact runs_transaction hpacked hgie hsttie hie (show k + l < s.bufLen.n by omega) (.inl rfl)
  have hin : ∀ w ∈ (packWrites bytes).drop (k + 1), w.1 < s.bufLen.n := fun w hw =>
    packWrites_in hlen w (List.mem_of_mem_drop hw)
  have hleft : l = ((packWrites bytes).drop (k + 1)).length := by simp; omega
  have hmore := runs_more (s := (s.partlyPacked bytes (k + 1)).opened.sent (k + l) true) hin hleft.le
  refine ⟨_, (hpack.append hread).append hmore, ?wire, fun i => ?buffer⟩
  case wire =>
    refine (wireBytes_sent hpacked (k + l) true).trans ?_
    rw [hkl, ← hlen]
    exact map_bufByte_partlyPacked s bytes (k + 1)
  case buffer =>
    have hall : ((packWrites bytes).drop (k + 1)).take l = (packWrites bytes).drop (k + 1) :=
      List.take_of_length_le hleft.ge
    refine bufByte_eq_of_read (congrArg (Memory.read · i) ?_)
    show Memory.writeList (Memory.writeList s.txbuf ((packWrites bytes).take (k + 1)))
      (((packWrites bytes).drop (k + 1)).take l) = Memory.writeList s.txbuf (packWrites bytes)
    rw [hall, ← Memory.writeList_append, List.take_append_drop]

end

/-- Settles O58: the transaction reads the buffer as the byte writes before it left it. -/
theorem unprotectedPackIsReadTorn : Obligations.UnprotectedPackIsReadTorn := by
  intro s hready hgie hsttie hie hcritical hpending
  have henabled : s.pendingWrites.isEmpty = true := List.isEmpty_iff.mpr hpending
  refine ⟨fun v hlen => ?two, fun v j hlen hj => ?four⟩
  case two =>
    obtain ⟨t, hruns, hwire, hbuf⟩ := runs_tornRead (st := .pack16 v) (k := 0) (l := 1) hready hgie hsttie hie
      (packBytes16_width hlen v) hcritical hpending henabled rfl (by rw [hlen]; rfl)
    obtain ⟨h0, h1, -⟩ := packing_pack16 s v []
    rw [hlen] at hruns
    rw [hlen, packBytes16_eq] at hwire
    exact ⟨t, hruns.ends, hwire, (hbuf 0).trans h0, (hbuf 1).trans h1⟩
  case four =>
    obtain ⟨t, hruns, hwire, hbuf⟩ := runs_tornRead (st := .pack32 v) (k := j) (l := 3 - j) hready hgie hsttie hie
      (packBytes32_width hlen v) hcritical hpending henabled rfl (by rw [hlen, BufLen.n_four]; omega)
    obtain ⟨h0, h1, h2, h3, -⟩ := packing_pack32 s v []
    have hnew : (packBytes32 v).take (j + 1) =
        [v.extractLsb' 24 8, v.extractLsb' 16 8, v.extractLsb' 8 8].take (j + 1) := by
      rw [packBytes32_eq]
      exact List.take_append_of_le_length (l₁ := [_, _, _]) hj
    rw [hlen] at hruns
    rw [hlen, hnew] at hwire
    exact ⟨t, hruns.ends, hwire, (hbuf 0).trans h0, (hbuf 1).trans h1, (hbuf 2).trans h2, (hbuf 3).trans h3⟩

end Sys2Proof.Machine
end

section
/-! The environment's events (44_environment R106 to R112): what one event does, a group of clocks, and the
environment's frame. O36, O37, O38, O39, O40 and O41. -/

namespace Sys2Proof.Machine

/-! ### One event -/

/-- Settles O36: the start flag is set and the marker traced. -/
theorem startEventSetsTheStartFlag : Obligations.StartEventSetsTheStartFlag := fun _ _ => rfl

/-- Settles O37: the marker is traced. -/
theorem stopEventChangesNothing : Obligations.StopEventChangesNothing := fun _ _ => rfl

/-- No flag pending, no hold (44_environment R109). -/
theorem clockHeld_eq_false {s : State} (hstart : s.sttifg = false) (hcompletion : s.ifg = false) :
    s.clockHeld = false :=
  Bool.or_eq_false_iff.mpr ⟨hstart, hcompletion⟩

/-- The line bit enters as a byte that is zero above bit 0 (44_environment R107). -/
theorem shiftIn_eq_or_setWidth (sr : Byte) (line : Bool) :
    shiftIn sr line = sr <<< 1 ||| (BitVec.ofBool line).setWidth 8 := by
  cases line <;> rfl

/-- One shift, while no completion is pending: `IFG` is up afterwards exactly when the bit was the last one armed
(44_environment R107). -/
theorem shiftBit_of_noCompletion {s : State} (line : Bool) (hifg : s.ifg = false) :
    shiftBit line s = { s with
      sr := s.sr <<< 1 ||| (BitVec.ofBool line).setWidth 8, cnt := s.cnt - 1#4, ifg := decide (s.cnt = 1#4) } := by
  rw [← shiftIn_eq_or_setWidth]
  by_cases hone : s.cnt = 1#4
  · have hlast : s.cnt - 1 = 0#4 := by rw [hone]; rfl
    rw [shiftBit_last hlast, hone]
    rfl
  · have hmore : s.cnt - 1 ≠ 0#4 := by bv_omega
    rw [shiftBit_more hmore, decide_eq_false hone, ← hifg]
    rfl

/-- Settles O38: the clock is not held, and the armed count decides whether it shifts. -/
theorem clockShiftsOneBit : Obligations.ClockShiftsOneBit := by
  rintro s m line hstart hifg hline
  have hfree : s.clockHeld = false := clockHeld_eq_false hstart hifg
  obtain rfl : line = s.line m := hline
  constructor
  · intro harmed
    rw [exec_envClock_armed m hfree harmed, shiftBit_of_noCompletion _ hifg]
    rfl
  · exact exec_envClock_unarmed m hfree

/-- Settles O39: either flag holds the clock. -/
theorem pendingFlagHoldsTheClock : Obligations.PendingFlagHoldsTheClock := by
  intro s m hpending
  exact exec_envClock_held m (Bool.or_eq_true_iff.mpr hpending)

/-! ### A group of clocks -/

/-- One clock, with one bit armed; the handler need not be ready to serve the group. -/
theorem runs_armedBit {s : State} {m r : Bool} (hfree : s.clockHeld = false) (harmed : s.cnt = 1#4)
    (hr : s.line m = r) :
    Runs [.clk m] s (s.received (s.sr <<< 1 ||| (BitVec.ofBool r).setWidth 8) [.clock r s.oe]) := by
  rw [← hr, ← shiftIn_eq_or_setWidth]
  exact runs_group (ms := [m]) hfree (by simp [harmed]) (by simp [harmed])

/-- Settles O41: the line is what the master drives while the engine listens, and what the engine drives while the
master has released it. -/
theorem armedGroupShiftsItsBits : Obligations.ArmedGroupShiftsItsBits := by
  intro s hstart hifg
  have hfree : s.clockHeld = false := clockHeld_eq_false hstart hifg
  refine ⟨fun b harmed hoe => ?byteIn, fun m harmed hoe => ?bitIn, fun harmed hoe => ?byteOut,
    fun harmed hoe => ?bitOut⟩
  case byteIn =>
    have hlistening : (if s.oe then b &&& s.sr else b) = b := if_neg (by simp [hoe])
    have hgroup := runs_scriptByte hfree harmed hlistening
    rw [hoe] at hgroup
    exact hgroup.ends
  case bitIn =>
    have hline : s.line m = m := by simp [State.line, State.drive, hoe]
    have hgroup := runs_armedBit hfree harmed hline
    rw [hoe] at hgroup
    exact hgroup.ends
  case byteOut =>
    have hreleased : (if s.oe then 0xFF#8 &&& s.sr else 0xFF#8) = s.sr :=
      (if_pos hoe).trans (BitVec.allOnes_and (x := s.sr))
    have hgroup := runs_scriptByte hfree harmed hreleased
    rw [hoe] at hgroup
    exact hgroup.ends
  case bitOut =>
    have hline : s.line true = s.sr.getLsbD 7 := by simp [State.line, State.drive, hoe]
    have hgroup := runs_armedBit hfree harmed hline
    rw [hoe] at hgroup
    exact hgroup.ends

/-! ### The frame of the environment -/

/-- `s` with the fields of `t` that a bus event may write, and the queue of the bus events. -/
def State.withBusOf (s t : State) : State :=
  { s with
    sttifg := t.sttifg, ifg := t.ifg, sr := t.sr, cnt := t.cnt, wire := t.wire, busEvents := t.busEvents }

/-- A shift writes `SR`, `CNT` and `IFG` only. -/
theorem shiftBit_frame (line : Bool) (s : State) : shiftBit line s = s.withBusOf (shiftBit line s) := by
  by_cases hlast : s.cnt - 1 = 0#4
  · rw [shiftBit_last hlast]
    rfl
  · rw [shiftBit_more hlast]
    rfl

theorem BusEffect.frame {s t : State} (h : BusEffect s t) : t = s.withBusOf t := by
  cases h with
  | start => rfl
  | held e hheld => rfl
  | traced e => rfl
  | shifted e line hfree harmed => exact congrArg (traceWire e) (shiftBit_frame line s)

theorem BusEffect.keeps_startFlag {s t : State} (h : BusEffect s t) (hflag : s.sttifg = true) :
    t.sttifg = true := by
  cases h with
  | start => rfl
  | held e hheld => exact hflag
  | traced e => exact hflag
  | shifted e line hfree harmed => simpa using hflag

theorem BusEffect.keeps_completionFlag {s t : State} (h : BusEffect s t) (hflag : s.ifg = true) :
    t.ifg = true := by
  cases h with
  | start => exact hflag
  | held e hheld => exact hflag
  | traced e => exact hflag
  | shifted e line hfree harmed => simp [hflag]

theorem BusEffect.appends_wire {s t : State} (h : BusEffect s t) : ∃ w, t.wire = s.wire ++ w := by
  cases h with
  | start => exact ⟨[.start], rfl⟩
  | held e hheld => exact ⟨[], (List.append_nil s.wire).symm⟩
  | traced e => exact ⟨[e], rfl⟩
  | shifted e line hfree harmed => exact ⟨[e], by simp⟩

/-- Settles O40: each of the four effects of a bus event has the frame, keeps both flags up and appends to the
trace. -/
theorem environmentNeverClearsAFlag : Obligations.EnvironmentNeverClearsAFlag := by
  intro i s t hi h
  have heffect : BusEffect s t := exec_bus_cases hi h
  exact ⟨heffect.frame, heffect.keeps_startFlag, heffect.keeps_completionFlag, heffect.appends_wire⟩

end Sys2Proof.Machine
end

section
/-! Invocations that are refused or wait, runs under the invariant, and the ends of a transaction (60_exceptions R120 to
R128). O10, O47 and O48. -/

namespace Sys2Proof.Machine

/-! ### Taken, waiting, refused -/

/-- A masked invocation waits (60_exceptions R126, R128). -/
theorem takeInterrupt_masked (action : State → Result) {s : State} (hirq : s.irq = true) (hgie : s.gie = false) :
    takeInterrupt action s = .next s := by
  simp [takeInterrupt, hirq, hgie]

theorem noAction_unrequested (why : Refusal) {s : State} (h : s.irq = false) :
    noAction why s = .refused .handlerWithoutPendingFlag := by
  simp [noAction, h]

/-- An operation with an action is one invocation around it (40_dispatch R60). -/
theorem exec_eq_takeInterrupt {i : Instr} (hi : isHandlerAction i = true) (haction : hasAction i = true) :
    ∃ action, exec i = takeInterrupt action := by
  cases i with
  | hStart cccc => exact ⟨_, funext (exec_hStart cccc)⟩
  | hIdle => exact ⟨_, funext exec_hIdle⟩
  | hAddress => exact ⟨_, funext exec_hAddress⟩
  | hProcessAddress => exact ⟨_, funext exec_hProcessAddress⟩
  | hRxCheck => exact ⟨_, funext exec_hRxCheck⟩
  | hTxData => exact ⟨_, funext exec_hTxData⟩
  | hAckNack => exact ⟨_, funext exec_hAckNack⟩
  | hTxCheck => exact ⟨_, funext exec_hTxCheck⟩
  | hRxData | hIllegal xxx => nomatch haction
  | _ => nomatch hi

/-- An operation without an action is refused by a name of its own (40_dispatch R64, R65). -/
theorem exec_eq_noAction {i : Instr} (haction : hasAction i = false) :
    (i = .hRxData ∨ ∃ xxx, i = .hIllegal xxx) ∧ ∃ why, why ≠ .handlerWithoutPendingFlag ∧ exec i = noAction why := by
  cases i with
  | hRxData => exact ⟨.inl rfl, .rxDataHasNoAction, nofun, rfl⟩
  | hIllegal xxx => exact ⟨.inr ⟨xxx, rfl⟩, .illegalStateCode, nofun, rfl⟩
  | _ => nomatch haction

/-- Settles O10: an operation with an action is one invocation, which is refused, waits or is taken by `irq` and `GIE`;
one without is refused in any case, for want of a flag only while none is pending. -/
theorem handlerWaitsForGieAndNeedsAFlag : Obligations.HandlerWaitsForGieAndNeedsAFlag := by
  intro i s hi
  change (s.irq = false → _) ∧ (s.irq = true → _) ∧ (s.irq = true → _)
  cases haction : hasAction i with
  | true =>
    obtain ⟨action, hexec⟩ := exec_eq_takeInterrupt hi haction
    refine ⟨fun hoff => ?refused, fun hirq hgie _ _ => ?waits, fun hirq _ hrefused => ?taken⟩
    case refused => rw [hexec, takeInterrupt_unrequested action hoff]
    case waits => rw [hexec, takeInterrupt_masked action hirq hgie]
    case taken =>
      obtain ⟨hoff, -⟩ := exec_handler_refused hi haction hrefused
      simp [hirq] at hoff
  | false =>
    obtain ⟨hname, why, hwhy, hexec⟩ := exec_eq_noAction haction
    rw [hexec]
    refine ⟨noAction_unrequested why, fun _ _ hrx hillegal => ?named, fun hirq _ => ?refused⟩
    case named =>
      obtain h | ⟨xxx, h⟩ := hname
      · exact absurd h hrx
      · exact absurd h (hillegal xxx)
    case refused =>
      rw [noAction_requested why hirq]
      exact fun h => hwhy (Host.Outcome.refused.inj h)

/-! ### Runs -/

/-- Settles O47, by induction on the steps: each answers a state in the invariant, or is refused. -/
theorem runsUnderTheInvariantAreSafe : Obligations.RunsUnderTheInvariantAreSafe := by
  intro s k h e hfault
  induction k generalizing s with
  | zero => cases hfault
  | succ k ih =>
    cases hstep : step s with
    | next t =>
      rw [run_succ_of_step (M := Sys2Proof.core) hstep] at hfault
      exact ih t (stepKeepsTheInvariant s t h hstep) hfault
    | fault e' => exact noStepFaultsUnderTheInvariant s e' h hstep
    | refused r =>
      have hcore : Sys2Proof.core.step s = .refused r := hstep
      simp [Host.Core.run, hcore] at hfault

/-! ### The ends of a transaction -/

/-- What the invocation that leads from `s` to `t` owes to its label (60_exceptions R121, R122, R124): the refusing bit
armed after a mismatch, the ready engine after a NACK or the last byte, a fresh address phase after a start. Without a
label, a transaction in progress goes idle only from RX_CHECK. -/
def State.EndsIn (s t : State) : Option TransactionEnd → Prop
  | some .addrMismatch => t.state = StateCode.rxCheck ∧ t.sr = 0xFF#8 ∧ t.cnt = 1#4
  | some .earlyNack | some .complete => t.Ready
  | some .preempted => t.state = StateCode.processAddress ∧ t.dataIdx = 0#3 ∧ t.cnt = 8#4 ∧ t.sttifg = false
  | none => s.state ≠ StateCode.idle → t.state = StateCode.idle → s.state = StateCode.rxCheck

section
variable {s : State}

theorem transactionEnd_start (hstart : s.sttifg = true) :
    s.transactionEnd = if s.state = StateCode.idle then none else some .preempted := if_pos hstart

theorem transactionEnd_processAddress (hstart : s.sttifg = false) (hstate : s.state = StateCode.processAddress) :
    s.transactionEnd = if s.sr = fold s.devAddr s.sr then none else some .addrMismatch := by
  simp [State.transactionEnd, hstart, hstate]

theorem transactionEnd_txCheck (hstart : s.sttifg = false) (hstate : s.state = StateCode.txCheck) :
    s.transactionEnd =
      if s.dataIdx.toNat < s.bufLen.n then (if nackBit s.sr then some .earlyNack else none) else some .complete := by
  simp [State.transactionEnd, hstart, hstate]

/-- Only a start, PROCESS_ADDRESS and TX_CHECK can end a transaction. -/
theorem transactionEnd_none (hstart : s.sttifg = false) (haddress : s.state ≠ StateCode.processAddress)
    (hcheck : s.state ≠ StateCode.txCheck) : s.transactionEnd = none := by
  simp [State.transactionEnd, hstart, haddress, hcheck]

/-- Ending the transaction in TX_CHECK is labelled early or complete, by the cursor. -/
theorem endsIn_of_ready {t : State} (hstart : s.sttifg = false) (hstate : s.state = StateCode.txCheck)
    (hend : nackBit s.sr = true ∨ s.bufLen.n ≤ s.dataIdx.toNat) (ht : t.Ready) : s.EndsIn t s.transactionEnd := by
  rw [transactionEnd_txCheck hstart hstate]
  split
  next hin =>
    rw [if_pos (hend.resolve_right (by omega))]
    exact ht
  · exact ht

/-- The effect of the operation that the dispatch key selects is the one its label asks for. -/
theorem HandlerEffect.endsAsLabelled {u : State} {i : Instr} (heffect : HandlerEffect s i u)
    (hi : decodeDispatch s.dispatchKey = i) : s.EndsIn (leaveHandler u) s.transactionEnd := by
  have hserved : ∀ c, servedState i = some c → s.sttifg = false ∧ s.state = c :=
    fun _ hc => flag_and_state_of_dispatched (hi ▸ hc)
  have hsilent : ∀ c, servedState i = some c → c ≠ StateCode.processAddress → c ≠ StateCode.txCheck →
      s.transactionEnd = none := fun c hc haddress hcheck => by
    obtain ⟨hstart, rfl⟩ := hserved c hc
    exact transactionEnd_none hstart haddress hcheck
  cases heffect with
  | start cccc =>
    rw [transactionEnd_start (sttifg_of_hStart hi)]
    split
    next hidle => exact fun hbusy => absurd hidle hbusy
    · exact ⟨rfl, rfl, rfl, rfl⟩
  | idle =>
    rw [hsilent _ rfl (by decide) (by decide)]
    exact fun hbusy => absurd (hserved _ rfl).2 hbusy
  | address =>
    rw [hsilent _ rfl (by decide) (by decide)]
    exact nofun
  | addressMatch hmatch =>
    obtain ⟨hstart, hstate⟩ := hserved _ rfl
    rw [transactionEnd_processAddress hstart hstate, if_pos hmatch]
    exact nofun
  | addressMismatch hmismatch =>
    obtain ⟨hstart, hstate⟩ := hserved _ rfl
    rw [transactionEnd_processAddress hstart hstate, if_neg hmismatch]
    exact ⟨rfl, rfl, rfl⟩
  | rxCheck =>
    rw [hsilent _ rfl (by decide) (by decide)]
    exact fun _ _ => (hserved _ rfl).2
  | txData hin =>
    rw [hsilent _ rfl (by decide) (by decide)]
    exact nofun
  | ackNack =>
    rw [hsilent _ rfl (by decide) (by decide)]
    exact nofun
  | txEnd hend =>
    obtain ⟨hstart, hstate⟩ := hserved _ rfl
    exact endsIn_of_ready hstart hstate hend ⟨rfl, rfl, rfl, rfl⟩
  | txNext hack hin =>
    obtain ⟨hstart, hstate⟩ := hserved _ rfl
    rw [transactionEnd_txCheck hstart hstate, if_pos hin, hack]
    exact nofun

end

/-- In `S_TX_DATA` the cursor is 0, so there is a byte to load. -/
theorem EngineInv.byte_to_load {s : State} (h : EngineInv s) (hstate : s.state = StateCode.txData) :
    s.dataIdx.toNat < s.bufLen.n := by
  rw [h.cursorZero (.inr (.inr hstate))]
  exact s.bufLen.n_pos

/-- Settles O48: under the invariant an enabled invocation is taken and answers, and its effect is the labelled one. -/
theorem transactionEndsAsLabelled : Obligations.TransactionEndsAsLabelled := by
  intro s h henabled
  obtain ⟨hgie, hirq⟩ := Bool.and_eq_true_iff.mp henabled
  obtain ⟨u, heffect, hnext⟩ := invokeHandler_taken hirq hgie h.engine.namesAction h.engine.byte_to_load
  have hends : ∀ label, s.transactionEnd = label → s.EndsIn (leaveHandler u) label :=
    fun _ hlabel => hlabel ▸ heffect.endsAsLabelled rfl
  exact ⟨_, hnext, hends _, hends _, hends _, hends _, hends _⟩

end Sys2Proof.Machine
end

section
/-! The producer does not touch the engine: what each of its calls keeps (70_reset R146, 60_exceptions R134). O33. -/

namespace Sys2Proof.Machine

/-- `s` with the fields of `t` that a call of the producer other than `initialize` may write. -/
def State.withForegroundOf (s t : State) : State :=
  { s with
    txbuf := t.txbuf, gie := t.gie, gieSaved := t.gieSaved, inCritical := t.inCritical
    pendingWrites := t.pendingWrites, unpacked := t.unpacked }

theorem exec_producer_frame {i : Instr} {s t : State} (hi : isProducerCall i = true) (hinit : ∀ a, i ≠ .hostInit a)
    (h : exec i s = .next t) : t = s.withForegroundOf t := by
  cases i with
  | hostInit a => exact absurd rfl (hinit a)
  | setTransmitValue16 v | setTransmitValue32 v =>
    rw [publish_frame h]
    rfl
  | pack16 v | pack32 v =>
    rw [packBytes_frame h]
    rfl
  | unpack16 b0 b1 | unpack32 b0 b1 b2 b3 | irqRestore =>
    cases h
    rfl
  | irqMask =>
    obtain ⟨-, rfl⟩ := maskInterrupts_cases h
    rfl
  | _ => nomatch hi

/-- Settles O33: the set-up writes its own fields, and every other call the foreground's. -/
theorem producerLeavesTheEngineAlone : Obligations.ProducerLeavesTheEngineAlone := by
  intro i s t hi h
  refine ⟨fun hinit => exec_producer_frame hi hinit h, ?setUp⟩
  rintro a rfl
  obtain ⟨-, -, rfl⟩ := execHostInit_cases h
  rfl

end Sys2Proof.Machine
end

section
/-! Hazards of a transaction that begins while another is in progress, and of an address that is not the engine's own
(70_reset R149, R157, R158). O42, O50 and O52. -/

namespace Sys2Proof.Machine

/-- Settles O42: with the engine driving, the byte on the line is the AND. -/
theorem drivenAddressPhaseReceivesTheAnd : Obligations.DrivenAddressPhaseReceivesTheAnd := by
  intro s b hstart hifg harmed hoe
  have hdriven : (if s.oe then b &&& s.sr else b) = b &&& s.sr := if_pos hoe
  have hgroup := runs_scriptByte (clockHeld_eq_false hstart hifg) harmed hdriven
  rw [hoe] at hgroup
  exact hgroup.ends

/-- Settles O50: the start requests an invocation, whose override leaves nothing of the state in progress. -/
theorem startPreemptsFromEveryState : Obligations.StartPreemptsFromEveryState :=
  fun _ hgie hsttie => (runs_start hgie hsttie).ends

/-! ### A foreign address -/

section
variable {s : State}

/-- `s` after the engine has taken up the foreign address byte `b` and made the NACK ready. -/
def State.refusing (s : State) (b : Byte) : State :=
  { s with
    state := StateCode.rxCheck, devAddr := fold s.devAddr b, sr := 0xFF#8, cnt := 1#4, oe := true, ifg := false
    wire := s.wire ++ byteEntries s.oe b }

/-- A foreign address is not taken up, with either read/write bit (41_address R71, R72). -/
theorem runs_foreignAddress {b : Byte} (h : s.Waiting) (hstate : s.state = StateCode.processAddress)
    (harmed : s.cnt = 8#4) (hoe : s.oe = false) (hcanon : s.devAddr = s.canon)
    (hforeign : b.extractLsb' 1 7 ≠ s.ownAddr) : Runs (scriptByte b ++ [.irq]) s (s.refusing b) := by
  have hmismatch : b ≠ fold s.devAddr b := hcanon ▸ mt (eq_fold_canonOf_iff s.ownAddr b).mp hforeign
  have hbyte := runs_scriptByte (b := b) h.clockHeld harmed (if_neg (by simp [hoe]))
  exact runs_served h hbyte (action := fun t => .next (processAddress t)) (by rw [hstate]; rfl)
    (congrArg Host.Outcome.next (processAddress_mismatch hmismatch))

/-- `s` after the bit that refuses the address, and the end of the transaction. -/
def State.forgotten (s : State) : State :=
  { s with
    state := StateCode.idle, devAddr := s.canon, sr := shiftIn s.sr (s.line true), cnt := 0#4, oe := false
    ifg := false, wire := s.wire ++ [.clock (s.line true) s.oe] }

/-- The bit that refuses the address is on the line; then the engine is re-primed (41_address R74 to R76). -/
theorem runs_refusal (h : s.Waiting) (hstate : s.state = StateCode.rxCheck) (harmed : s.cnt = 1#4) :
    Runs (scriptRbit ++ [.irq]) s s.forgotten :=
  runs_served h (runs_scriptBit true h harmed)
    (action := fun t => .next { prepStart t with state := StateCode.idle }) (by rw [hstate]; rfl) rfl

/-- A whole transaction with a foreign address, from a state in which the engine does not drive the line. -/
theorem runs_foreignTransaction {b : Byte} (hoe : s.oe = false) (hgie : s.gie = true) (hsttie : s.sttie = true)
    (hie : s.ie = true) (hforeign : b.extractLsb' 1 7 ≠ s.ownAddr) :
    Runs ([.start, .irq] ++ ((scriptByte b ++ [.irq]) ++ (scriptRbit ++ [.irq]))) s
      (s.restarted.refusing b).forgotten := by
  have haddress : Runs (scriptByte b ++ [.irq]) s.restarted (s.restarted.refusing b) :=
    runs_foreignAddress ⟨rfl, rfl, hie, hgie⟩ rfl rfl hoe rfl hforeign
  have hrefusal : Runs (scriptRbit ++ [.irq]) (s.restarted.refusing b) (s.restarted.refusing b).forgotten :=
    runs_refusal ⟨rfl, rfl, hie, hgie⟩ rfl rfl
  exact (runs_start hgie hsttie).append (haddress.append hrefusal)

/-- The engine listens to the address byte and drives a NACK. -/
theorem refusing_forgotten_wire (b : Byte) (hoe : s.oe = false) :
    (s.restarted.refusing b).forgotten.wire = s.wire ++ [.start] ++ byteEntries false b ++ [.clock true true] := by
  have hline : (s.restarted.refusing b).line true = true := by simp [State.line, State.drive, State.refusing]
  rw [State.forgotten, hline, ← hoe]
  rfl

end

/-- Settles O52: the three invocations serve the start, the address byte and the NACK, and no byte follows on the
wire. -/
theorem foreignAddressIsRefusedAndForgotten : Obligations.ForeignAddressIsRefusedAndForgotten := by
  intro s b hready hgie hsttie hie hforeign
  have hruns := runs_foreignTransaction hready.released hgie hsttie hie hforeign
  simp only [← List.append_assoc] at hruns
  have hwire := refusing_forgotten_wire b hready.released
  have hnodata : wireBytes (s.wire ++ [.start] ++ byteEntries false b ++ [.clock true true]) = [] :=
    (congrArg wireBytes (List.append_nil _).symm).trans (wireBytes_frame s.wire false b (true, true) [])
  exact ⟨_, hruns.ends, hwire, hwire ▸ hnodata, ⟨rfl, rfl, rfl, rfl⟩, ⟨rfl, rfl, rfl, rfl⟩, rfl⟩

end Sys2Proof.Machine
end

section
/-! A published value on the wire (70_reset R156). O56. -/

namespace Sys2Proof.Machine

/-- The whole of a pack reads back from the buffer, in its order. -/
theorem map_bufByte_packing (s : State) (bytes : List Byte) (left : List (Nat × Byte)) :
    (List.range bytes.length).map (s.packing (packWrites bytes) left).bufByte = bytes := by
  refine List.ext_getElem (by simp) fun i _ hi => ?_
  rw [List.getElem_map, List.getElem_range, packing_bufByte, List.getElem?_eq_getElem hi, Option.getD_some]

/-- `s` after the publish of `bytes` (43_codec_host R96, R97). -/
def State.published (s : State) (bytes : List Byte) : State :=
  { s.packing (packWrites bytes) [] with gieSaved := s.gie }

/-- A publish and a read of the whole buffer: the published bytes are on the wire, and the engine is ready again. -/
theorem runs_publishedRead {bytes : List Byte} {s : State} {st : Statement} (hready : s.Ready) (hgie : s.gie = true)
    (hsttie : s.sttie = true) (hie : s.ie = true) (hlen : bytes.length = s.bufLen.n)
    (hcritical : s.inCritical = false) (hpending : s.pendingWrites = []) (henabled : st.enabled s = true)
    (hrun : st.run s = publish bytes s) :
    ∃ t, Runs (st :: scriptRead s.ownAddr s.bufLen.n) s t ∧ wireBytes t.wire = bytes ∧ t.Ready ∧ t.Quiescent := by
  obtain ⟨k, hk⟩ : ∃ k, s.bufLen.n = k + 1 := Nat.exists_eq_add_one.mpr s.bufLen.n_pos
  have hpublished : (s.published bytes).Ready := ⟨hready.idle, hready.cursor, hready.device, hready.released⟩
  have hread : Runs (scriptRead s.ownAddr s.bufLen.n) (s.published bytes)
      ((s.published bytes).opened.sent k true) := by
    rw [hk, scriptRead_eq_transaction]
    exact runs_transaction hpublished hgie hsttie hie hk.ge (.inl rfl)
  refine ⟨_, .cons henabled (hrun.trans (publish_outside hlen hcritical hpending)) hread, ?wire,
    sent_ready _ k true, sent_quiescent k true (opened_waiting hgie hie)⟩
  case wire =>
    rw [wireBytes_sent hpublished, ← hk, ← hlen]
    exact map_bufByte_packing s bytes []

/-- Settles O56: the publish fills the buffer with the codec's bytes, and the read puts the buffer on the wire. -/
theorem publishedValueIsReadBigEndian : Obligations.PublishedValueIsReadBigEndian := by
  intro s hready hgie hsttie hie hcritical hpending
  have henabled : s.pendingWrites.isEmpty = true := List.isEmpty_iff.mpr hpending
  refine ⟨fun v hlen => ?two, fun v hlen => ?four⟩
  case two =>
    obtain ⟨t, hruns, hwire, hagain⟩ := runs_publishedRead (st := .set16 v) hready hgie hsttie hie
      (packBytes16_width hlen v) hcritical hpending henabled rfl
    rw [hlen] at hruns
    exact ⟨t, hruns.ends, hwire.trans (packBytes16_eq v), hagain⟩
  case four =>
    obtain ⟨t, hruns, hwire, hagain⟩ := runs_publishedRead (st := .set32 v) hready hgie hsttie hie
      (packBytes32_width hlen v) hcritical hpending henabled rfl
    rw [hlen] at hruns
    exact ⟨t, hruns.ends, hwire.trans (packBytes32_eq v), hagain⟩

end Sys2Proof.Machine
end
